-- ==== Sys2Proof/Word.lean ====
section
/-!
DEFINITION. The word types of the OpenTherm transceiver core, its closed enumerations and the words that reach
its interfaces. Rules of spec/: R6 (bit numbering), R43 (clock), R60 (frame), R61, R68, R69, R77 (enumerations),
R70, R76, R78 (how operations and events arrive).
-/

namespace Sys2Proof

/-- One byte of a word on the host interface. -/
abbrev Byte := BitVec 8

/-- The 32-bit protocol unit (R60), bit 31 the most significant (R6). -/
abbrev Frame := BitVec 32

/-- The two abstract levels of a line (R77). -/
inductive Level where
  | idle
  | active
deriving DecidableEq, Repr

/-- `ROLE` (R5, R77, R213). -/
inductive Role where
  | master
  | slave
deriving DecidableEq, Repr

/-- `POL_IN`, `POL_OUT` (R5): which electrical level of a pin is `ACTIVE`. -/
inductive Polarity where
  | activeHigh
  | activeLow
deriving DecidableEq, Repr

/-- MessageType (R61), the eight names in the order of their codes 0 to 7. -/
inductive MessageType where
  | readData
  | writeData
  | invalidData
  | reserved
  | readAck
  | writeAck
  | dataInvalid
  | unknownDataId
deriving DecidableEq, Repr

/-- The two families of message types (R62). -/
inductive Family where
  | requester
  | responder
deriving DecidableEq, Repr

/-- DriverStatus (R11, R69), in the order of the codes 0 to 8. -/
inductive DriverStatus where
  | notInitialized
  | ready
  | delay
  | requestSending
  | responseWaiting
  | responseStartBit
  | responseReceiving
  | responseReady
  | responseInvalid
deriving DecidableEq, Repr

/-- ResponseStatus (R12, R68), in the order of the codes 0 to 3. -/
inductive ResponseStatus where
  | none
  | success
  | invalid
  | timeout
deriving DecidableEq, Repr

/-- `pend_cause` (R17, R77). -/
inductive PendCause where
  | framing
  | timeout
deriving DecidableEq, Repr

/-- `tx_kind` (R20, R77). -/
inductive TxKind where
  | request
  | response
deriving DecidableEq, Repr

/-- The four error kinds (R200); they have no codes. -/
inductive ErrorKind where
  | invalidParity
  | invalidFraming
  | timeout
  | unknownOrMismatchedMessageType
deriving DecidableEq, Repr

/-- The interval classes of R142 (R77: results of a function, never stored). -/
inductive IntervalClass where
  | short
  | half
  | full
  | long
deriving DecidableEq, Repr

/-- The three pseudo-operations, called by name (R74, R76): they have no selector. -/
inductive Accessor where
  | buildSetBoilerStatusRequest (ch dhw cool otc ch2 : Bool)
  | setBoilerStatus (ch dhw cool otc ch2 : Bool)
  | getBoilerTemperature
deriving DecidableEq, Repr

/-- The event steps: signals without an encoding (R78). An `EDGE` carries the clock value the handler reads, a count of
microseconds that the core takes modulo `2^W_TIME` (R43, log entry 13). -/
inductive Signal where
  | edge (t : Nat) (lvl : Level)
  | txHalf
  | txHalfCompletion
  | wdg
deriving DecidableEq, Repr

/-- What the host can put on the host operation interface (R51): a command word (selector byte and operand bytes), a
command word whose operand is the rational `num / (denPred + 1)` itself (R108), a frame word, or a call of a
pseudo-operation by name. -/
inductive HostWord where
  | cmd (bytes : List Byte)
  | realCmd (sel : Byte) (num : Int) (denPred : Nat)
  | frame32 (bytes : List Byte)
  | accessor (call : Accessor)
deriving DecidableEq, Repr

/-- What reaches the core: a word of the host, or a signal of the line, the clock or the transmit engine. -/
inductive Word where
  | host (w : HostWord)
  | signal (e : Signal)
deriving DecidableEq, Repr

/-- What follows a selector: a number of operand bytes, or a rational (log entry 4). -/
inductive OperandShape where
  | bytes (k : Nat)
  | real
deriving DecidableEq, Repr

/-- Why the decoder rejects a word. -/
inductive DecodeError where
  /-- A command word of no bytes. -/
  | emptyWord
  /-- A selector byte above 31: `cmd_op` has 5 bits (R70). -/
  | selectorTooWide
  /-- `cmd_op` 9 to 15 (R72 (f)). -/
  | reservedSelector
  /-- A rational operand where the operation has none, or operand bytes where it has a rational one (R108). -/
  | wrongOperandKind
  /-- Not the number of bytes the operation (or the frame) has. -/
  | wrongLength
  /-- An operand byte of `begin` other than 0 and 1 (`cb` has 1 bit, R161). -/
  | operandOutOfRange
deriving DecidableEq, Repr

end Sys2Proof
end

