-- ==== Sys2Proof/Syntax.lean ====
section
/-!
DEFINITION. The steps of the core (R4): one constructor for each row of spec/opcode_table.json. Operands stand as the
caller passes them: `type`, `id`, `data` of the builders are unsigned integers of any size, truncated by the meaning
(R71); the rational operand of `temperatureToData` is `num / (denPred + 1)` (R108).
-/

namespace Sys2Proof

/-- One atomic step (R4, R8). -/
inductive Instr where
  -- protocol operations, `cmd_op` 0 to 8
  | beginOp (cb : Bool)
  | endOp
  | isReady
  | sendRequest (frame : Frame)
  | sendRequestAsync (frame : Frame)
  | sendResponse (frame : Frame)
  | process
  | getLastResponse
  | getLastResponseStatus
  -- codec operations, `cmd_op` 16 to 31
  | buildRequest (ty id data : Nat)
  | buildResponse (ty id data : Nat)
  | parity (frame : Frame)
  | getMessageType (frame : Frame)
  | getDataID (frame : Frame)
  | isValidRequest (frame : Frame)
  | isValidResponse (frame : Frame)
  | getUInt (frame : Frame)
  | getFloat (frame : Frame)
  | temperatureToData (num : Int) (denPred : Nat)
  | isFault (frame : Frame)
  | isCentralHeatingActive (frame : Frame)
  | isHotWaterActive (frame : Frame)
  | isFlameOn (frame : Frame)
  | isCoolingActive (frame : Frame)
  | isDiagnostic (frame : Frame)
  -- the eight frame formats, by the field `TYPE`
  | frameReadData (p : Bool) (spare : BitVec 4) (id : BitVec 8) (data : BitVec 16)
  | frameWriteData (p : Bool) (spare : BitVec 4) (id : BitVec 8) (data : BitVec 16)
  | frameInvalidData (p : Bool) (spare : BitVec 4) (id : BitVec 8) (data : BitVec 16)
  | frameReserved (p : Bool) (spare : BitVec 4) (id : BitVec 8) (data : BitVec 16)
  | frameReadAck (p : Bool) (spare : BitVec 4) (id : BitVec 8) (data : BitVec 16)
  | frameWriteAck (p : Bool) (spare : BitVec 4) (id : BitVec 8) (data : BitVec 16)
  | frameDataInvalid (p : Bool) (spare : BitVec 4) (id : BitVec 8) (data : BitVec 16)
  | frameUnknownDataId (p : Bool) (spare : BitVec 4) (id : BitVec 8) (data : BitVec 16)
  -- event steps
  | edge (t : Nat) (lvl : Level)
  | txHalf
  | txHalfCompletion
  | wdg
  -- pseudo-operations
  | buildSetBoilerStatusRequest (ch dhw cool otc ch2 : Bool)
  | setBoilerStatus (ch dhw cool otc ch2 : Bool)
  | getBoilerTemperature
deriving DecidableEq, Repr

end Sys2Proof
end

