-- ==== Sys2Proof/WellFormed.lean ====
section
/-!
DEFINITION. Which instructions have a word on the host interface: the operands of a builder must fit the lanes of the
command word (the lanes are the model's, log entry 4). Every other operand fits by its type.
-/

namespace Sys2Proof

/-- The operands of a builder fit the lanes of 16, 16 and 32 bits, each wider than its field (R71). -/
def fitsBuildLanes (ty id data : Nat) : Bool :=
  decide (ty < 2 ^ 16) && decide (id < 2 ^ 16) && decide (data < 2 ^ 32)

/-- The instruction's operands fit the word that carries it. -/
def WellFormed : Instr → Bool
  | .beginOp _ => true
  | .endOp => true
  | .isReady => true
  | .sendRequest _ => true
  | .sendRequestAsync _ => true
  | .sendResponse _ => true
  | .process => true
  | .getLastResponse => true
  | .getLastResponseStatus => true
  | .buildRequest ty id data => fitsBuildLanes ty id data
  | .buildResponse ty id data => fitsBuildLanes ty id data
  | .parity _ => true
  | .getMessageType _ => true
  | .getDataID _ => true
  | .isValidRequest _ => true
  | .isValidResponse _ => true
  | .getUInt _ => true
  | .getFloat _ => true
  | .temperatureToData _ _ => true
  | .isFault _ => true
  | .isCentralHeatingActive _ => true
  | .isHotWaterActive _ => true
  | .isFlameOn _ => true
  | .isCoolingActive _ => true
  | .isDiagnostic _ => true
  | .frameReadData _ _ _ _ => true
  | .frameWriteData _ _ _ _ => true
  | .frameInvalidData _ _ _ _ => true
  | .frameReserved _ _ _ _ => true
  | .frameReadAck _ _ _ _ => true
  | .frameWriteAck _ _ _ _ => true
  | .frameDataInvalid _ _ _ _ => true
  | .frameUnknownDataId _ _ _ _ => true
  | .edge _ _ => true
  | .txHalf => true
  | .txHalfCompletion => true
  | .wdg => true
  | .buildSetBoilerStatusRequest _ _ _ _ _ => true
  | .setBoilerStatus _ _ _ _ _ => true
  | .getBoilerTemperature => true

end Sys2Proof
end

