-- ==== Sys2Proof/Decode.lean ====
section
/-!
DEFINITION. The decoder, total on every word, the encoder after it, and the host's `decodeTableWord`. Selectors: R70;
frame layout: R60, R61; signals and pseudo-operations carry no bits (R76, R78). The spec gives an operand no bits in
a command word: its operand lanes follow the selector byte, least significant byte first, and a rational operand, which
may be any rational (R108), stands in the word as the two integers it is given by (DESIGN CHOICE, log entry 4).
-/

namespace Sys2Proof

/-- The number a string of bytes holds, least significant byte first. -/
def leNat : List Byte → Nat
  | [] => 0
  | b :: bs => b.toNat + 256 * leNat bs

/-- The `k` low bytes of a number, least significant first. -/
def leBytes : Nat → Nat → List Byte
  | 0, _ => []
  | k + 1, n => BitVec.ofNat 8 n :: leBytes k (n / 256)

/-- `p ‖ type ‖ spare ‖ id ‖ data` (R60). -/
def packFrame (p : Bool) (ty : BitVec 3) (spare : BitVec 4) (id : BitVec 8) (data : BitVec 16) : Frame :=
  BitVec.ofBool p ++ ty ++ spare ++ id ++ data

/-- What follows each selector (log entry 4): `none` for the selectors that name no operation. -/
def operandShape (sel : Nat) : Option OperandShape :=
  match sel with
  | 0 => some (.bytes 1)
  | 1 => some (.bytes 0)
  | 2 => some (.bytes 0)
  | 3 => some (.bytes 4)
  | 4 => some (.bytes 4)
  | 5 => some (.bytes 4)
  | 6 => some (.bytes 0)
  | 7 => some (.bytes 0)
  | 8 => some (.bytes 0)
  | 16 => some (.bytes 8)
  | 17 => some (.bytes 8)
  | 18 => some (.bytes 4)
  | 19 => some (.bytes 4)
  | 20 => some (.bytes 4)
  | 21 => some (.bytes 4)
  | 22 => some (.bytes 4)
  | 23 => some (.bytes 4)
  | 24 => some (.bytes 4)
  | 25 => some .real
  | 26 => some (.bytes 4)
  | 27 => some (.bytes 4)
  | 28 => some (.bytes 4)
  | 29 => some (.bytes 4)
  | 30 => some (.bytes 4)
  | 31 => some (.bytes 4)
  | _ => none

/-- `begin`'s operand byte: `cb` in bit 0, the other bits 0. -/
def decodeBegin (w : Nat) : Except DecodeError Instr :=
  match w with
  | 0 => .ok (.beginOp false)
  | 1 => .ok (.beginOp true)
  | _ => .error .operandOutOfRange

/-- The operation on operand bytes that a selector names (R70), its operands taken from the lanes read as one number
`w`; `temperatureToData` has none. -/
def decodeOperation (sel w : Nat) : Except DecodeError Instr :=
  match sel with
  | 0 => decodeBegin w
  | 1 => .ok .endOp
  | 2 => .ok .isReady
  | 3 => .ok (.sendRequest (BitVec.ofNat 32 w))
  | 4 => .ok (.sendRequestAsync (BitVec.ofNat 32 w))
  | 5 => .ok (.sendResponse (BitVec.ofNat 32 w))
  | 6 => .ok .process
  | 7 => .ok .getLastResponse
  | 8 => .ok .getLastResponseStatus
  | 16 => .ok (.buildRequest (w % 2 ^ 16) (w / 2 ^ 16 % 2 ^ 16) (w / 2 ^ 32 % 2 ^ 32))
  | 17 => .ok (.buildResponse (w % 2 ^ 16) (w / 2 ^ 16 % 2 ^ 16) (w / 2 ^ 32 % 2 ^ 32))
  | 18 => .ok (.parity (BitVec.ofNat 32 w))
  | 19 => .ok (.getMessageType (BitVec.ofNat 32 w))
  | 20 => .ok (.getDataID (BitVec.ofNat 32 w))
  | 21 => .ok (.isValidRequest (BitVec.ofNat 32 w))
  | 22 => .ok (.isValidResponse (BitVec.ofNat 32 w))
  | 23 => .ok (.getUInt (BitVec.ofNat 32 w))
  | 24 => .ok (.getFloat (BitVec.ofNat 32 w))
  | 25 => .error .wrongOperandKind
  | 26 => .ok (.isFault (BitVec.ofNat 32 w))
  | 27 => .ok (.isCentralHeatingActive (BitVec.ofNat 32 w))
  | 28 => .ok (.isHotWaterActive (BitVec.ofNat 32 w))
  | 29 => .ok (.isFlameOn (BitVec.ofNat 32 w))
  | 30 => .ok (.isCoolingActive (BitVec.ofNat 32 w))
  | 31 => .ok (.isDiagnostic (BitVec.ofNat 32 w))
  | _ => .error .reservedSelector

/-- A command word: the selector byte, then its operand bytes. A selector of more than 5 bits, a reserved one
(R72 (f)) and a wrong length are rejected by name. -/
def decodeCmd (bytes : List Byte) : Except DecodeError Instr :=
  match bytes with
  | [] => .error .emptyWord
  | b :: rest =>
    if 32 ≤ b.toNat then .error .selectorTooWide
    else
      match operandShape b.toNat with
      | none => .error .reservedSelector
      | some .real => .error .wrongOperandKind
      | some (.bytes k) => if rest.length = k then decodeOperation b.toNat (leNat rest) else .error .wrongLength

/-- A command word with a rational operand (R108): `temperatureToData` is the one operation that has one. -/
def decodeRealCmd (b : Byte) (num : Int) (denPred : Nat) : Except DecodeError Instr :=
  if 32 ≤ b.toNat then .error .selectorTooWide
  else
    match operandShape b.toNat with
    | none => .error .reservedSelector
    | some .real => .ok (.temperatureToData num denPred)
    | some (.bytes _) => .error .wrongOperandKind

/-- A 32-bit frame word, by its field `TYPE` (R60, R61): all eight codes name a format and none is reserved. -/
def decodeFrameWord (f : Frame) : Instr :=
  let p := f.getLsbD 31
  let spare := f.extractLsb' 24 4
  let id := f.extractLsb' 16 8
  let data := f.extractLsb' 0 16
  match (f.extractLsb' 28 3).toNat with
  | 0 => .frameReadData p spare id data
  | 1 => .frameWriteData p spare id data
  | 2 => .frameInvalidData p spare id data
  | 3 => .frameReserved p spare id data
  | 4 => .frameReadAck p spare id data
  | 5 => .frameWriteAck p spare id data
  | 6 => .frameDataInvalid p spare id data
  | _ => .frameUnknownDataId p spare id data

/-- A frame word has exactly four bytes. -/
def decodeFrame32 (bytes : List Byte) : Except DecodeError Instr :=
  if bytes.length = 4 then .ok (decodeFrameWord (BitVec.ofNat 32 (leNat bytes))) else .error .wrongLength

/-- A pseudo-operation called by name (R76). -/
def decodeAccessor : Accessor → Instr
  | .buildSetBoilerStatusRequest ch dhw cool otc ch2 => .buildSetBoilerStatusRequest ch dhw cool otc ch2
  | .setBoilerStatus ch dhw cool otc ch2 => .setBoilerStatus ch dhw cool otc ch2
  | .getBoilerTemperature => .getBoilerTemperature

/-- The event step a signal raises (R78). -/
def decodeSignal : Signal → Instr
  | .edge t lvl => .edge t lvl
  | .txHalf => .txHalf
  | .txHalfCompletion => .txHalfCompletion
  | .wdg => .wdg

/-- What the host puts on its interface. -/
def decodeHost : HostWord → Except DecodeError Instr
  | .cmd bytes => decodeCmd bytes
  | .realCmd sel num denPred => decodeRealCmd sel num denPred
  | .frame32 bytes => decodeFrame32 bytes
  | .accessor call => .ok (decodeAccessor call)

/-- The decoder, total on every word. -/
def decode : Word → Except DecodeError Instr
  | .host w => decodeHost w
  | .signal e => .ok (decodeSignal e)

/-! ### The encoder -/

/-- A command word of `k` operand bytes. -/
def cmdWord (sel k w : Nat) : Word :=
  .host (.cmd (BitVec.ofNat 8 sel :: leBytes k w))

/-- The command word of an operation on one frame operand. -/
def frameCmd (sel : Nat) (f : Frame) : Word :=
  cmdWord sel 4 f.toNat

/-- The command word of a builder. -/
def buildCmd (sel ty id data : Nat) : Word :=
  cmdWord sel 8 (ty + 2 ^ 16 * id + 2 ^ 32 * data)

/-- A frame word, least significant byte first. -/
def frameWord (p : Bool) (ty : BitVec 3) (spare : BitVec 4) (id : BitVec 8) (data : BitVec 16) : Word :=
  .host (.frame32 (leBytes 4 (packFrame p ty spare id data).toNat))

/-- The word of a well-formed instruction. -/
def encode : Instr → Word
  | .beginOp cb => cmdWord 0 1 cb.toNat
  | .endOp => cmdWord 1 0 0
  | .isReady => cmdWord 2 0 0
  | .sendRequest f => frameCmd 3 f
  | .sendRequestAsync f => frameCmd 4 f
  | .sendResponse f => frameCmd 5 f
  | .process => cmdWord 6 0 0
  | .getLastResponse => cmdWord 7 0 0
  | .getLastResponseStatus => cmdWord 8 0 0
  | .buildRequest ty id data => buildCmd 16 ty id data
  | .buildResponse ty id data => buildCmd 17 ty id data
  | .parity f => frameCmd 18 f
  | .getMessageType f => frameCmd 19 f
  | .getDataID f => frameCmd 20 f
  | .isValidRequest f => frameCmd 21 f
  | .isValidResponse f => frameCmd 22 f
  | .getUInt f => frameCmd 23 f
  | .getFloat f => frameCmd 24 f
  | .temperatureToData num denPred => .host (.realCmd 25#8 num denPred)
  | .isFault f => frameCmd 26 f
  | .isCentralHeatingActive f => frameCmd 27 f
  | .isHotWaterActive f => frameCmd 28 f
  | .isFlameOn f => frameCmd 29 f
  | .isCoolingActive f => frameCmd 30 f
  | .isDiagnostic f => frameCmd 31 f
  | .frameReadData p spare id data => frameWord p 0#3 spare id data
  | .frameWriteData p spare id data => frameWord p 1#3 spare id data
  | .frameInvalidData p spare id data => frameWord p 2#3 spare id data
  | .frameReserved p spare id data => frameWord p 3#3 spare id data
  | .frameReadAck p spare id data => frameWord p 4#3 spare id data
  | .frameWriteAck p spare id data => frameWord p 5#3 spare id data
  | .frameDataInvalid p spare id data => frameWord p 6#3 spare id data
  | .frameUnknownDataId p spare id data => frameWord p 7#3 spare id data
  | .edge t lvl => .signal (.edge t lvl)
  | .txHalf => .signal .txHalf
  | .txHalfCompletion => .signal .txHalfCompletion
  | .wdg => .signal .wdg
  | .buildSetBoilerStatusRequest ch dhw cool otc ch2 =>
    .host (.accessor (.buildSetBoilerStatusRequest ch dhw cool otc ch2))
  | .setBoilerStatus ch dhw cool otc ch2 => .host (.accessor (.setBoilerStatus ch dhw cool otc ch2))
  | .getBoilerTemperature => .host (.accessor .getBoilerTemperature)

/-! ### Words as spec/opcode_table.json numbers their bits -/

/-- The host word whose bits are `w`: 32 bits are a frame word, no bits no word, any other width a command word whose
selector is its first byte and whose bits above `nbits` are 0. A selector without an operation keeps no operand
byte, and a rational operand of zeros is 0 / 1. -/
def tableWord (nbits w : Nat) : HostWord :=
  if nbits = 32 then .frame32 (leBytes 4 w)
  else if nbits = 0 then .cmd []
  else
    let v := w % 2 ^ nbits
    match operandShape (v % 256) with
    | none => .cmd [BitVec.ofNat 8 v]
    | some .real => .realCmd (BitVec.ofNat 8 v) 0 0
    | some (.bytes k) => .cmd (BitVec.ofNat 8 v :: leBytes k (v / 256))

/-- The instruction the decoder reads from a row's word. -/
def decodeTableWord (nbits w : Nat) : Option Instr :=
  match decodeHost (tableWord nbits w) with
  | .ok i => some i
  | .error _ => none

end Sys2Proof
end

