-- ==== Sys2Proof/Config.lean ====
section
/-!
DEFINITION. The configuration record: the parameter table of R5 (spec/00_scope.md). A parameter is fixed when the
instance is constructed and no step writes it. `FRAME_BITS` and `LINE_BITS` are fixed by the source and no parameter
that U9 lets a user override: the type of their fields admits no other value (log entry 13). The defaults are the
table's values; for `ROLE` (per instance) and the three OPEN parameters `T_SYNC_TIMEOUT`, `POL_IN`, `POL_OUT` the
table gives none and `Config.default` takes the values of log entry 1 (DESIGN CHOICE).
-/

namespace Sys2Proof

/-- A parameter whose value the source fixes at `n`. -/
abbrev Fixed (n : Nat) := { k : Nat // k = n }

/-- The parameters of R5. Times are in microseconds. -/
structure Config where
  /-- `ROLE`. -/
  role : Role
  /-- `T_BIT`. -/
  tBit : Nat
  /-- `T_HALF`. -/
  tHalf : Nat
  /-- `T_THRESH`. -/
  tThresh : Nat
  /-- `T_SHORT`. -/
  tShort : Nat
  /-- `T_LONG`. -/
  tLong : Nat
  /-- `T_TIMEOUT`. -/
  tTimeout : Nat
  /-- `T_SYNC_TIMEOUT`, OPEN; `none` is a bound that never expires (R169). -/
  tSyncTimeout : Option Nat
  /-- `W_TIME`, the width of the microsecond clock and of `rx_ts`, `tx_t0`. -/
  wTime : Nat
  /-- `POL_IN`, OPEN. -/
  polIn : Polarity
  /-- `POL_OUT`, OPEN. -/
  polOut : Polarity
  /-- `SENTINEL`. -/
  sentinel : Frame
  /-- `STATUS_PRED_SHIFT`, 8 or 0. -/
  statusPredShift : Nat
  /-- `ID_STATUS`. -/
  idStatus : BitVec 8
  /-- `ID_TSET`; no rule reads it. -/
  idTset : BitVec 8
  /-- `ID_SLAVE_VERSION`; no rule reads it. -/
  idSlaveVersion : BitVec 8
  /-- `ID_TBOILER`. -/
  idTboiler : BitVec 8
  /-- `FRAME_BITS`, the width of `Frame`. -/
  frameBits : Fixed 32
  /-- `LINE_BITS`, the width of a line frame. -/
  lineBits : Fixed 34
deriving DecidableEq, Repr

/-- The table's values (R5), with log entry 1 for `ROLE` and the OPEN parameters. -/
def Config.default : Config where
  role := .master
  tBit := 1000
  tHalf := 500
  tThresh := 750
  tShort := 250
  tLong := 1250
  tTimeout := 1000000
  tSyncTimeout := none
  wTime := 32
  polIn := .activeHigh
  polOut := .activeHigh
  sentinel := 0x00000000#32
  statusPredShift := 8
  idStatus := 0#8
  idTset := 1#8
  idSlaveVersion := 127#8
  idTboiler := 25#8
  frameBits := ⟨32, rfl⟩
  lineBits := ⟨34, rfl⟩

/-- The index of the completion step of a transmission, two half periods for each line bit (R19, R134). -/
def Config.completionIndex (c : Config) : Nat := 2 * c.lineBits.val

/-- What must hold for any choice of the parameters: the ordering constraint of R5 with `T_HALF = T_BIT / 2`, and a
`STATUS_PRED_SHIFT` of 8 or 0 (log entry 12). -/
abbrev Config.Valid (c : Config) : Prop :=
  c.tShort < c.tHalf ∧ c.tHalf < c.tThresh ∧ c.tThresh < c.tBit ∧ c.tBit < c.tLong ∧ c.tLong < c.tTimeout ∧
  c.tTimeout < 2 ^ (c.wTime - 1) ∧ c.tBit = 2 * c.tHalf ∧ (c.statusPredShift = 8 ∨ c.statusPredShift = 0)

end Sys2Proof
end

