-- ==== Sys2Proof/Machine/State.lean ====
section
/-!
DEFINITION. The state of one core (R10 to R24), beside it the configuration (R5), the agents that act on it (R52,
R240) and the outputs of the last step (R7, R27, R200). There is no memory (R40). `State.reset` is R34.
-/

namespace Sys2Proof.Machine

/-- The parts of a frame a reader of it sees (R60 to R62) and whether it is a valid request or response (R105, R106):
the result of handing a frame word to the core (DESIGN CHOICE, log entry 6). -/
structure FrameView where
  /-- The parity over all 32 bits: `true` is odd, a frame that is not well formed (R60, R102). -/
  parityOdd : Bool
  messageType : MessageType
  family : Family
  spare : BitVec 4
  id : BitVec 8
  data : BitVec 16
  validRequest : Bool
  validResponse : Bool
deriving DecidableEq, Repr

/-- What `return v` of a host operation hands to the host (R7, R70). -/
inductive Result where
  /-- The operation returns nothing, or has not returned yet. -/
  | none
  | bool (b : Bool)
  | frame (f : Frame)
  | messageType (m : MessageType)
  | dataId (id : BitVec 8)
  | u16 (v : BitVec 16)
  /-- The rational `n / 256` (R108). -/
  | real (n : Int)
  | responseStatus (rs : ResponseStatus)
  | frameView (v : FrameView)
deriving DecidableEq, Repr

/-- The outputs of one step: the host operation's result, the callback strobe (R27) and the error kinds the step
reported (R200). They are outputs, not state of the core: every step starts with all three empty (DESIGN
CHOICE, log entry 3). -/
structure Outputs where
  result : Result
  callback : Option (Frame × ResponseStatus)
  reports : List ErrorKind
deriving DecidableEq, Repr

/-- No result, no strobe, no report. -/
def Outputs.silent : Outputs := { result := .none, callback := none, reports := [] }

/-- The result `r`, no strobe and no report. -/
def Outputs.returning (r : Result) : Outputs := { result := r, callback := none, reports := [] }

/-- One reported error kind, no result and no strobe. -/
def Outputs.reporting (k : ErrorKind) : Outputs := { result := .none, callback := none, reports := [k] }

/-- What a blocked synchronous send returns at its end: the frame (`sendRequest`, `setBoilerStatus`, R169, R181) or
the temperature read from it (`getBoilerTemperature`, R182). -/
inductive SyncKind where
  | frame
  | temperature
deriving DecidableEq, Repr

/-- The host blocked in a synchronous send that was accepted at `t0` (R169; DESIGN CHOICE, log entry 5). -/
structure SyncCall where
  kind : SyncKind
  t0 : Nat
deriving DecidableEq, Repr

/-- A transition of the input line to come: its true time and the electrical level the handler will read. -/
structure LineItem where
  time : Nat
  pinHigh : Bool
deriving DecidableEq, Repr

/-- A word the host will put on its interface: its true time and the word. -/
structure HostItem where
  time : Nat
  word : HostWord
deriving DecidableEq, Repr

/-- The machine: the fourteen elements of R10, then the configuration, the environment and the outputs. -/
structure State where
  /-- `status` (R11). -/
  status : DriverStatus
  /-- `resp_status` (R12). -/
  respStatus : ResponseStatus
  /-- `last_response` (R13). -/
  lastResponse : Frame
  /-- `rx_shift` (R14). -/
  rxShift : Frame
  /-- `bit_idx` (R15). -/
  bitIdx : BitVec 6
  /-- `rx_ts` (R16), `W_TIME` bits: a count of microseconds below `2^W_TIME` (log entry 13). -/
  rxTs : Nat
  /-- `pend_cause` (R17). -/
  pendCause : PendCause
  /-- `tx_frame` (R18). -/
  txFrame : Frame
  /-- `tx_idx` (R19). -/
  txIdx : BitVec 7
  /-- `tx_kind` (R20). -/
  txKind : TxKind
  /-- `tx_t0` (R21), `W_TIME` bits, as `rx_ts`. -/
  txT0 : Nat
  /-- `line_out` (R22). -/
  lineOut : Level
  /-- `irq_en` (R23). -/
  irqEn : Bool
  /-- `cb_en` (R24). -/
  cbEn : Bool
  /-- The parameters, fixed at construction (R5, R32). They stand in the state because the step has no other argument
  (DESIGN CHOICE, log entry 1). -/
  cfg : Config
  /-- The platform's clock in true, unwrapped microseconds (R43); the core sees it modulo `2^W_TIME`. Like `line`,
  `host` and `polls` it is the environment's, not the core's (DESIGN CHOICE, log entry 2). -/
  now : Nat
  /-- The transitions of the input line still to come, in the environment's order (R41, R206). -/
  line : List LineItem
  /-- The host's words still to come, in the order the host issues them (R51, R208). -/
  host : List HostItem
  /-- The times at which a host blocked in a synchronous send will poll, as the host chooses them (R169, R240). A
  blocked host with none left polls at the instant its call can return (DESIGN CHOICE, log entry 5). -/
  polls : List Nat
  /-- The synchronous send in which the host is blocked, if any (R169; DESIGN CHOICE, log entry 5). -/
  sync : Option SyncCall
  /-- The outputs of the last step. -/
  out : Outputs
deriving DecidableEq, Repr

/-- Why the machine stops. -/
inductive Fault where
  /-- Raised by every protocol operation but `end`, by every event step and by a poll of the host when `status` is
  `DELAY`, a code that no rule writes: such a state has no step of any agent but `end` (C6, R72 (e), U3; DEDUCED, log
  entry 7). Safe: no run from reset reaches it. -/
  | stuckInDelay
deriving DecidableEq, Repr

/-- Why a step has no meaning. -/
inductive Refusal where
  /-- Raised by an arm of `exec` whose instruction has no meaning yet. Safe. -/
  | notModelled (mnemonic : String)
  /-- Raised by `step` on a host word the decoder rejects: a reserved selector (R72 (f), U4) or a word that is no
  command word or frame word of the model's layout (log entry 4). Safe. -/
  | undecodable (e : DecodeError)
deriving DecidableEq, Repr

/-- The outcome of one step. -/
abbrev StepResult := Host.Outcome State Fault Refusal

/-- The state after construction with the parameters `c` (R34, R230): `status = NOT_INITIALIZED` and every other
element the all-zero code. The clock starts at 0 and the environment has nothing to come (DESIGN CHOICE, log
entry 2). -/
def State.resetWith (c : Config) : State where
  status := .notInitialized
  respStatus := .none
  lastResponse := 0x00000000#32
  rxShift := 0x00000000#32
  bitIdx := 0#6
  rxTs := 0
  pendCause := .framing
  txFrame := 0x00000000#32
  txIdx := 0#7
  txKind := .request
  txT0 := 0
  lineOut := .idle
  irqEn := false
  cbEn := false
  cfg := c
  now := 0
  line := []
  host := []
  polls := []
  sync := none
  out := Outputs.silent

/-- The state after reset, with the default parameters (R34, R5). -/
def State.reset : State := State.resetWith Config.default

end Sys2Proof.Machine
end

