-- ==== Sys2Proof/Machine/Operands.lean ====
section
/-!
DEFINITION. Codes of the enumerations, fields of a frame, operand assembly, the line frame and its bit cells, and the
fixed-point conversions. Rules of spec/: R60 to R71, R77, R100, R107 to R110, R131, R133, R148, R180.
-/

namespace Sys2Proof.Machine

/-! ### Codes of the enumerations (R61, R68, R69, R77) -/

/-- The code of a message type (R61). -/
def messageTypeCode : MessageType → BitVec 3
  | .readData => 0b000#3
  | .writeData => 0b001#3
  | .invalidData => 0b010#3
  | .reserved => 0b011#3
  | .readAck => 0b100#3
  | .writeAck => 0b101#3
  | .dataInvalid => 0b110#3
  | .unknownDataId => 0b111#3

/-- The message type a 3-bit code names: every code names one (R61). -/
def messageTypeOfCode (c : BitVec 3) : MessageType :=
  match c.toNat with
  | 0 => .readData
  | 1 => .writeData
  | 2 => .invalidData
  | 3 => .reserved
  | 4 => .readAck
  | 5 => .writeAck
  | 6 => .dataInvalid
  | _ => .unknownDataId

/-- The code of a ResponseStatus (R68). -/
def responseStatusCode : ResponseStatus → BitVec 2
  | .none => 0#2
  | .success => 1#2
  | .invalid => 2#2
  | .timeout => 3#2

/-- The code of a DriverStatus (R69). -/
def driverStatusCode : DriverStatus → BitVec 4
  | .notInitialized => 0#4
  | .ready => 1#4
  | .delay => 2#4
  | .requestSending => 3#4
  | .responseWaiting => 4#4
  | .responseStartBit => 5#4
  | .responseReceiving => 6#4
  | .responseReady => 7#4
  | .responseInvalid => 8#4

/-- `IDLE` = 0, `ACTIVE` = 1 (R77). -/
def levelCode : Level → BitVec 1
  | .idle => 0#1
  | .active => 1#1

/-- `FRAMING` = 0, `TIMEOUT` = 1 (R77). -/
def pendCauseCode : PendCause → BitVec 1
  | .framing => 0#1
  | .timeout => 1#1

/-- `REQUEST` = 0, `RESPONSE` = 1 (R77). -/
def txKindCode : TxKind → BitVec 1
  | .request => 0#1
  | .response => 1#1

/-- `MASTER` = 0, `SLAVE` = 1 (R77). -/
def roleCode : Role → BitVec 1
  | .master => 0#1
  | .slave => 1#1

/-- The legacy name `READ` is an alias of `READ_DATA` (R75). -/
abbrev legacyRead : MessageType := .readData

/-- The legacy name `WRITE` is an alias of `WRITE_DATA` (R75). -/
abbrev legacyWrite : MessageType := .writeData

/-! ### Fields of a frame (R60) -/

/-- `TYPE`, frame bits 30 to 28. -/
def typeField (f : Frame) : BitVec 3 := f.extractLsb' 28 3

/-- `SPARE`, frame bits 27 to 24. -/
def spareField (f : Frame) : BitVec 4 := f.extractLsb' 24 4

/-- `ID`, frame bits 23 to 16. -/
def idField (f : Frame) : BitVec 8 := f.extractLsb' 16 8

/-- `DATA`, frame bits 15 to 0. -/
def dataField (f : Frame) : BitVec 16 := f.extractLsb' 0 16

/-- The message type a frame carries (R103). -/
def messageTypeOf (f : Frame) : MessageType := messageTypeOfCode (typeField f)

/-! ### Fixed point (R108 to R110) -/

/-- `256 * getFloat(f)` (R109): the high byte read as signed, the low byte added as unsigned 256ths. -/
def floatNumerator (f : Frame) : Int :=
  256 * (f.extractLsb' 8 8).toInt + ((f.extractLsb' 0 8).toNat : Int)

/-- The nearest integer to `256 * num / (denPred + 1)`, ties away from zero (R110): `floor(|x| + 1/2)` with the sign
of the operand. -/
def roundTo256ths (num : Int) (denPred : Nat) : Int :=
  let den := denPred + 1
  let magnitude : Nat := (2 * (num.natAbs * 256) + den) / (2 * den)
  if num < 0 then -(magnitude : Int) else (magnitude : Int)

/-- The clamp to the range of `s16` (R110). -/
def clampS16 (n : Int) : Int := min (max n (-32768)) 32767

/-- `temperatureToData(num / (denPred + 1))` (R110). -/
def temperatureWord (num : Int) (denPred : Nat) : BitVec 16 :=
  BitVec.ofInt 16 (clampS16 (roundTo256ths num denPred))

/-! ### The line frame and the bit cell (R66, R67, R131) -/

/-- `seq(f) = 1 ‖ f[31:0] ‖ 1`, 34 bits (R66, R131). -/
def lineFrame (f : Frame) : BitVec 34 := (1#1 ++ f ++ 1#1 : BitVec (1 + 32 + 1))

/-- Line bit `j` in order of time, `seq[33 - j]` (R66). -/
def lineBit (f : Frame) (j : Nat) : Bool := (lineFrame f).getLsbD (33 - j)

/-- The level of the first half of a bit cell (R67): `ACTIVE` for a 1. -/
def firstHalf (b : Bool) : Level := if b then .active else .idle

/-- The level of the second half of a bit cell (R67): `IDLE` for a 1. -/
def secondHalf (b : Bool) : Level := if b then .idle else .active

/-- The level driven in half period `k` of a line frame (R131, R133): `k` even is the first half of line bit
`k div 2`, `k` odd the second. -/
def halfLevel (f : Frame) (k : Nat) : Level :=
  if k % 2 = 0 then firstHalf (lineBit f (k / 2)) else secondHalf (lineBit f (k / 2))

/-- The value of a bit sampled at a mid-bit transition (R148): 1 when the level read is `IDLE`. -/
def sampledBit (lvl : Level) : Bool :=
  match lvl with
  | .idle => true
  | .active => false

/-! ### The flags of the status request (R65, R180) -/

/-- `flags` of R180: the five operands in bits 0 to 4. -/
def requestFlags (ch dhw cool otc ch2 : Bool) : Nat :=
  ch.toNat + 2 * dhw.toNat + 4 * cool.toNat + 8 * otc.toNat + 16 * ch2.toNat

/-! ### Pins (R41, R42) -/

/-- `LineRead()` (R41): the electrical level mapped through `POL_IN`. -/
def lineRead (pol : Polarity) (pinHigh : Bool) : Level :=
  match pol with
  | .activeHigh => if pinHigh then .active else .idle
  | .activeLow => if pinHigh then .idle else .active

/-- The electrical level that a polarity gives the line level `lvl` (R42); `true` is high. -/
def pinDriven (pol : Polarity) (lvl : Level) : Bool :=
  match pol, lvl with
  | .activeHigh, .active => true
  | .activeHigh, .idle => false
  | .activeLow, .active => false
  | .activeLow, .idle => true

end Sys2Proof.Machine
end

