-- ==== Sys2Proof/Machine/Flags.lean ====
section
/-!
DEFINITION. Every predicate and flag of the core: parity, families, validity, the status predicates, the classes of
intervals and the states the watchdog covers. Rules of spec/: R62, R65, R102, R105, R106, R111 to R116, R141, R142,
R149, R166.
-/

namespace Sys2Proof.Machine

/-- `parity(f)` (R102): the XOR of all 32 bits; `true` is odd. -/
def parityOf (f : Frame) : Bool :=
  (List.range 32).foldl (fun acc k => acc ^^ f.getLsbD k) false

/-- The family a message type belongs to (R62). -/
def familyOf : MessageType → Family
  | .readData => .requester
  | .writeData => .requester
  | .invalidData => .requester
  | .reserved => .requester
  | .readAck => .responder
  | .writeAck => .responder
  | .dataInvalid => .responder
  | .unknownDataId => .responder

/-- Even parity and a type of the family `fam`: the one rule of R105 and R106. -/
def validIn (fam : Family) (f : Frame) : Bool :=
  !parityOf f && decide (familyOf (messageTypeOf f) = fam)

/-- The family whose frames a role receives (R166, R213): a master expects a response, a slave a request. -/
def expectedFamily : Role → Family
  | .master => .responder
  | .slave => .requester

/-- The kind `process` reports for a frame that fails the validation (R166, R209): parity is tested first. -/
def validationFailure (f : Frame) : ErrorKind :=
  if parityOf f then .invalidParity else .unknownOrMismatchedMessageType

/-- A bit of the byte the status predicates read (R65, R111 to R116): frame bit `STATUS_PRED_SHIFT + k`. -/
def statusFlag (c : Config) (f : Frame) (k : Nat) : Bool :=
  f.getLsbD (c.statusPredShift + k)

/-- A count of microseconds as the clock and the timestamps hold it, modulo `2^W_TIME` (R43, R117 (f)). -/
def wrapTime (c : Config) (t : Nat) : Nat := t % 2 ^ c.wTime

/-- `elapsed(t, ts) = (t - ts) mod 2^W_TIME` (R7, R117 (f)). -/
def elapsed (c : Config) (t ts : Nat) : Nat := wrapTime c (wrapTime c t + (2 ^ c.wTime - wrapTime c ts))

/-- `cls(dt)` (R142): every window is closed below and open above. -/
def intervalClass (c : Config) (dt : Nat) : IntervalClass :=
  if dt < c.tShort then .short
  else if dt < c.tThresh then .half
  else if dt < c.tLong then .full
  else .long

/-- The three states the watchdog covers (R149). -/
def watched (st : DriverStatus) : Bool :=
  match st with
  | .responseWaiting => true
  | .responseStartBit => true
  | .responseReceiving => true
  | .notInitialized => false
  | .ready => false
  | .delay => false
  | .requestSending => false
  | .responseReady => false
  | .responseInvalid => false

/-- The two states in which a receive has ended and waits for `process` (R166, R169). -/
def receiveEnded (st : DriverStatus) : Bool :=
  match st with
  | .responseReady => true
  | .responseInvalid => true
  | .notInitialized => false
  | .ready => false
  | .delay => false
  | .requestSending => false
  | .responseWaiting => false
  | .responseStartBit => false
  | .responseReceiving => false

/-- The watchdog's condition at clock value `t` (R149): the comparison is strict. -/
def watchdogDue (t : Nat) (s : State) : Bool :=
  watched s.status && decide (s.cfg.tTimeout < elapsed s.cfg t s.rxTs)

/-- What a reader of a frame sees (R60 to R62, R105, R106). -/
def viewFrame (f : Frame) : FrameView where
  parityOdd := parityOf f
  messageType := messageTypeOf f
  family := familyOf (messageTypeOf f)
  spare := spareField f
  id := idField f
  data := dataField f
  validRequest := validIn .requester f
  validResponse := validIn .responder f

end Sys2Proof.Machine
end

