-- ==== Sys2Proof/Machine/Ops.lean ====
section
/-!
DEFINITION. The shared operations: reading the clock, driving the line, outputs, taking an error and recovering from
it, the watchdog, the start and the steps of a transmission, the arms of the edge handler, the synchronous send, and
the three shapes of a meaning. Rules of spec/: R7, R100, R132 to R134, R140 to R149, R166, R169, R170.
-/

namespace Sys2Proof.Machine

/-! ### The clock and the outputs -/

/-- `Now()` (R43): the true time modulo `2^W_TIME`. -/
def clock (s : State) : Nat := wrapTime s.cfg s.now

/-- A step begins with no result, no strobe and no report. -/
def quiet (s : State) : State := { s with out := Outputs.silent }

/-- `return v` (R7). -/
def giveResult (r : Result) (s : State) : State := { s with out := { s.out with result := r } }

/-- `report <Kind>` (R7, R200): a label on the step, nothing else. -/
def report (k : ErrorKind) (s : State) : State := { s with out := { s.out with reports := s.out.reports ++ [k] } }

/-- `emit CALLBACK(f, rs)` if a callback is registered (R7, R24, R27). -/
def emitCallback (f : Frame) (rs : ResponseStatus) (s : State) : State :=
  if s.cbEn then { s with out := { s.out with callback := some (f, rs) } } else s

/-- `LineWrite(lvl)` (R42). -/
def lineWrite (lvl : Level) (s : State) : State := { s with lineOut := lvl }

/-- The electrical level of the output pin, `true` for high: it follows `line_out` through `POL_OUT` (R42), so it is
computed from the state and stored nowhere beside it. -/
def outputPin (s : State) : Bool := pinDriven s.cfg.polOut s.lineOut

/-! ### Taking an error, and recovering from it (R200 to R205, R215) -/

/-- The kind a cause stands for (R202, R203). -/
def errorOfCause : PendCause → ErrorKind
  | .framing => .invalidFraming
  | .timeout => .timeout

/-- Taking an error at time `t` (R202, R203): the receive ends in `RESPONSE_INVALID`, `pend_cause` keeps the cause
and `rx_ts` the time; `rx_shift` and `bit_idx` keep the partial receive. -/
def takeError (cause : PendCause) (t : Nat) (s : State) : State :=
  report (errorOfCause cause) { s with status := .responseInvalid, pendCause := cause, rxTs := t }

/-- The writes and the strobe by which `process` hands a finished receive to the host (R166): `last_response`,
`resp_status`, `status <- READY`, then the callback. -/
def deliver (rs : ResponseStatus) (s : State) : State :=
  emitCallback s.rxShift rs { s with lastResponse := s.rxShift, respStatus := rs, status := .ready }

/-- `process` in `RESPONSE_READY` (R166): the validator follows the role. -/
def finaliseReady (s : State) : State :=
  if validIn (expectedFamily s.cfg.role) s.rxShift then deliver .success s
  else deliver .invalid (report (validationFailure s.rxShift) s)

/-- `process` in `RESPONSE_INVALID` (R166): the cause decides between `TIMEOUT` and `INVALID`. -/
def finaliseInvalid (s : State) : State :=
  match s.pendCause with
  | .timeout => deliver .timeout s
  | .framing => deliver .invalid s

/-- The return from an error or from a completed receive to `READY` (R166, R215); in any other state nothing. -/
def finalise (s : State) : State :=
  match s.status with
  | .responseReady => finaliseReady s
  | .responseInvalid => finaliseInvalid s
  | .notInitialized => s
  | .ready => s
  | .delay => s
  | .requestSending => s
  | .responseWaiting => s
  | .responseStartBit => s
  | .responseReceiving => s

/-! ### The watchdog (R149, R170) -/

/-- The instant at which the watchdog fires, `rx_ts + T_TIMEOUT + 1` (R149). -/
def watchdogInstant (s : State) : Nat := wrapTime s.cfg (s.rxTs + (s.cfg.tTimeout + 1))

/-- The evaluation at the head of a step at time `t` (R140, R170): if its condition holds, `WDG` has occurred, at its
own instant (log entry 10). -/
def watchdogFirst (t : Nat) (s : State) : State :=
  if watchdogDue t s then takeError .timeout (watchdogInstant s) s else s

/-! ### Transmission (R132 to R134) -/

/-- `TxStart(frame, kind, t)` (R132). -/
def txStart (f : Frame) (kind : TxKind) (t : Nat) (s : State) : State :=
  { s with txFrame := f, txKind := kind, txT0 := t, txIdx := 0#7, status := .requestSending }

/-- One half period (R133). -/
def txHalfPeriod (s : State) : State :=
  { lineWrite (halfLevel s.txFrame s.txIdx.toNat) s with txIdx := s.txIdx + 1#7 }

/-- The completion step at time `t` (R134): a request is followed by `RESPONSE_WAITING`, a response by `READY`. -/
def txComplete (t : Nat) (s : State) : State :=
  { lineWrite .idle s with
    txIdx := 0#7
    rxTs := t
    status := match s.txKind with
      | .request => .responseWaiting
      | .response => .ready }

/-- The answer to `sendRequestAsync` and `sendResponse` (R164, R165): claim `READY` or reject, in one step (R54). -/
def trySend (f : Frame) (kind : TxKind) (s : State) : State :=
  if s.status = .ready then giveResult (.bool true) (txStart f kind (clock s) s)
  else giveResult (.bool false) s

/-! ### The edge handler (R144 to R147) -/

/-- `READY` (R144): a slave takes a transition to `ACTIVE` for the leading edge of a start bit. -/
def edgeInReady (t : Nat) (lvl : Level) (s : State) : State :=
  if s.cfg.role = .slave ∧ lvl = .active then { s with status := .responseStartBit, rxTs := t } else s

/-- `RESPONSE_WAITING` (R145): any transition; its level is not tested. -/
def edgeInWaiting (t : Nat) (s : State) : State :=
  { s with status := .responseStartBit, rxTs := t }

/-- `RESPONSE_START_BIT` (R146). -/
def edgeInStartBit (t : Nat) (lvl : Level) (s : State) : State :=
  if intervalClass s.cfg (elapsed s.cfg t s.rxTs) = .half ∧ lvl = .idle then
    { s with status := .responseReceiving, bitIdx := 0#6, rxShift := 0#32, rxTs := t }
  else takeError .framing t s

/-- The sampled data bit enters `rx_shift` at its low end (R147, R117 (c)). -/
def shiftIn (b : Bool) (t : Nat) (s : State) : State :=
  { s with rxShift := (s.rxShift <<< 1) ||| (BitVec.ofBool b).zeroExtend 32, bitIdx := s.bitIdx + 1#6, rxTs := t }

/-- A mid-bit transition in `RESPONSE_RECEIVING` (R147): a data bit, or the stop bit when `bit_idx` is
`FRAME_BITS`. -/
def sampleBit (t : Nat) (lvl : Level) (s : State) : State :=
  if s.bitIdx.toNat < s.cfg.frameBits.val then shiftIn (sampledBit lvl) t s
  else if sampledBit lvl then { s with status := .responseReady, rxTs := t }
  else takeError .framing t s

/-- `RESPONSE_RECEIVING` (R147): a half interval is a bit boundary, a full one a sample, any other an error. -/
def edgeInReceiving (t : Nat) (lvl : Level) (s : State) : State :=
  match intervalClass s.cfg (elapsed s.cfg t s.rxTs) with
  | .half => s
  | .short => takeError .framing t s
  | .long => takeError .framing t s
  | .full => sampleBit t lvl s

/-- The effect of an edge by state (R143 to R147). -/
def edgeByStatus (t : Nat) (lvl : Level) (s : State) : State :=
  match s.status with
  | .notInitialized => s
  | .ready => edgeInReady t lvl s
  | .delay => s
  | .requestSending => s
  | .responseWaiting => edgeInWaiting t s
  | .responseStartBit => edgeInStartBit t lvl s
  | .responseReceiving => edgeInReceiving t lvl s
  | .responseReady => s
  | .responseInvalid => s

/-- The edge handler (R140): nothing while the interrupt is detached, else the watchdog and then the state's arm, at
the clock value `t`. -/
def edgeHandler (t : Nat) (lvl : Level) (s : State) : State :=
  if s.irqEn then edgeByStatus (wrapTime s.cfg t) lvl (watchdogFirst (wrapTime s.cfg t) s) else s

/-! ### The synchronous send (R169, R181, R182) -/

/-- What the blocked call returns for the frame `f` (R169, R182): the accessor reads a temperature only if
`resp_status` is `SUCCESS`. -/
def syncResult (kind : SyncKind) (f : Frame) (s : State) : Result :=
  match kind with
  | .frame => .frame f
  | .temperature => .real (if s.respStatus = .success then floatNumerator f else 0)

/-- Step 1 of `sendRequest` (R169): rejected with `SENTINEL`, or the transmission starts and the host is blocked. -/
def startSync (kind : SyncKind) (f : Frame) (s : State) : State :=
  if s.status = .ready then { txStart f .request (clock s) s with sync := some { kind := kind, t0 := clock s } }
  else giveResult (syncResult kind s.cfg.sentinel s) s

/-- The synchronous send returns the frame `f` and the host is free again. -/
def endSync (kind : SyncKind) (f : Frame) (s : State) : State :=
  giveResult (syncResult kind f s) { s with sync := none }

/-- The frame a finished exchange returns (R169), read after `process`. -/
def frameOrSentinel (s : State) : Frame :=
  if s.respStatus = .success then s.lastResponse else s.cfg.sentinel

/-- `elapsed(t, t0) > T_SYNC_TIMEOUT` (R169). -/
def syncExpired (t : Nat) (c : SyncCall) (s : State) : Bool :=
  match s.cfg.tSyncTimeout with
  | none => false
  | some bound => decide (bound < elapsed s.cfg t c.t0)

/-- One of the steps 2.. of `sendRequest` (R169): finalise, give up, or poll again. -/
def pollCall (c : SyncCall) (s : State) : State :=
  if receiveEnded s.status then endSync c.kind (frameOrSentinel (finalise s)) (finalise s)
  else if syncExpired (clock s) c s then endSync c.kind s.cfg.sentinel s
  else s

/-! ### Building a frame (R71, R100) -/

/-- `buildRequest` and `buildResponse` (R100, R101): each operand truncated to its field, the spare bits 0, and the
parity bit that makes the number of set bits even. -/
def buildFrame (ty id data : Nat) : Frame :=
  let body := packFrame false (BitVec.ofNat 3 ty) 0#4 (BitVec.ofNat 8 id) (BitVec.ofNat 16 data)
  packFrame (parityOf body) (BitVec.ofNat 3 ty) 0#4 (BitVec.ofNat 8 id) (BitVec.ofNat 16 data)

/-- `buildSetBoilerStatusRequest` (R180): the flags in the first flag byte of a `WRITE_DATA` frame of ID `Status`. -/
def statusRequest (c : Config) (ch dhw cool otc ch2 : Bool) : Frame :=
  buildFrame (messageTypeCode .writeData).toNat c.idStatus.toNat (2 ^ 8 * requestFlags ch dhw cool otc ch2)

/-- The request of `getBoilerTemperature` (R182): `READ_DATA`, `Tboiler`, payload 0. -/
def temperatureRequest (c : Config) : Frame :=
  buildFrame (messageTypeCode .readData).toNat c.idTboiler.toNat 0

/-! ### The shapes of a meaning -/

/-- A codec operation (R118): a result and nothing else, in every state. -/
def pureStep (r : Result) (s : State) : StepResult := .next (giveResult r (quiet s))

/-- A step of an agent that a state holding `DELAY` does not have (C6, U3). -/
def liveStep (effect : State → State) (s : State) : StepResult :=
  if s.status = .delay then .fault .stuckInDelay else .next (effect (quiet s))

/-- A protocol operation (R170): the watchdog acts first, then the operation on the state that results. -/
def protocolStep (effect : State → State) (s : State) : StepResult :=
  liveStep (fun q => effect (watchdogFirst (clock q) q)) s

/-- A poll of the host blocked in a synchronous send; a host that is not blocked has none. -/
def pollSync (s : State) : StepResult :=
  match s.sync with
  | none => .next (quiet s)
  | some c => protocolStep (pollCall c) s

end Sys2Proof.Machine
end

