-- ==== Sys2Proof/Machine/Accessors.lean ====
section
/-!
DEFINITION. The meanings of the pseudo-operations (spec/44_accessors.md): each is its expansion (R76). The two that
send are blocked like `sendRequest` and end with its polls.
-/

namespace Sys2Proof.Machine

/-- `buildSetBoilerStatusRequest(ch, dhw, cool, otc, ch2)` (R180). -/
def execBuildSetBoilerStatusRequest (ch dhw cool otc ch2 : Bool) (s : State) : StepResult :=
  pureStep (.frame (statusRequest s.cfg ch dhw cool otc ch2)) s

/-- `setBoilerStatus(ch, dhw, cool, otc, ch2)` (R181): `sendRequest` of the frame R180 builds. -/
def execSetBoilerStatus (ch dhw cool otc ch2 : Bool) (s : State) : StepResult :=
  protocolStep (startSync .frame (statusRequest s.cfg ch dhw cool otc ch2)) s

/-- `getBoilerTemperature()` (R182): `sendRequest` of a `READ_DATA` request for `Tboiler`, read with `getFloat`. -/
def execGetBoilerTemperature (s : State) : StepResult :=
  protocolStep (startSync .temperature (temperatureRequest s.cfg)) s

end Sys2Proof.Machine
end

