-- ==== Sys2Proof/Machine/Codec.lean ====
section
/-!
DEFINITION. The meanings of the codec operations, `cmd_op` 16 to 31 (spec/40_codec.md): functions of their operands,
whatever the state (R118).
-/

namespace Sys2Proof.Machine

/-- `buildRequest(type, id, data)` (R100). -/
def execBuildRequest (ty id data : Nat) (s : State) : StepResult := pureStep (.frame (buildFrame ty id data)) s

/-- `buildResponse(type, id, data)` (R101). -/
def execBuildResponse (ty id data : Nat) (s : State) : StepResult := pureStep (.frame (buildFrame ty id data)) s

/-- `parity(frame)` (R102). -/
def execParity (frame : Frame) (s : State) : StepResult := pureStep (.bool (parityOf frame)) s

/-- `getMessageType(frame)` (R103). -/
def execGetMessageType (frame : Frame) (s : State) : StepResult := pureStep (.messageType (messageTypeOf frame)) s

/-- `getDataID(frame)` (R104). -/
def execGetDataID (frame : Frame) (s : State) : StepResult := pureStep (.dataId (idField frame)) s

/-- `isValidRequest(frame)` (R105). -/
def execIsValidRequest (frame : Frame) (s : State) : StepResult := pureStep (.bool (validIn .requester frame)) s

/-- `isValidResponse(frame)` (R106). -/
def execIsValidResponse (frame : Frame) (s : State) : StepResult := pureStep (.bool (validIn .responder frame)) s

/-- `getUInt(frame)` (R107). -/
def execGetUInt (frame : Frame) (s : State) : StepResult := pureStep (.u16 (dataField frame)) s

/-- `getFloat(frame)` (R109). -/
def execGetFloat (frame : Frame) (s : State) : StepResult := pureStep (.real (floatNumerator frame)) s

/-- `temperatureToData(num / (denPred + 1))` (R110). -/
def execTemperatureToData (num : Int) (denPred : Nat) (s : State) : StepResult :=
  pureStep (.u16 (temperatureWord num denPred)) s

/-- `isFault(frame)` (R111). -/
def execIsFault (frame : Frame) (s : State) : StepResult := pureStep (.bool (statusFlag s.cfg frame 0)) s

/-- `isCentralHeatingActive(frame)` (R112). -/
def execIsCentralHeatingActive (frame : Frame) (s : State) : StepResult :=
  pureStep (.bool (statusFlag s.cfg frame 1)) s

/-- `isHotWaterActive(frame)` (R113). -/
def execIsHotWaterActive (frame : Frame) (s : State) : StepResult := pureStep (.bool (statusFlag s.cfg frame 2)) s

/-- `isFlameOn(frame)` (R114). -/
def execIsFlameOn (frame : Frame) (s : State) : StepResult := pureStep (.bool (statusFlag s.cfg frame 3)) s

/-- `isCoolingActive(frame)` (R115). -/
def execIsCoolingActive (frame : Frame) (s : State) : StepResult := pureStep (.bool (statusFlag s.cfg frame 4)) s

/-- `isDiagnostic(frame)` (R116): bit 5 of the byte has no predicate. -/
def execIsDiagnostic (frame : Frame) (s : State) : StepResult := pureStep (.bool (statusFlag s.cfg frame 6)) s

end Sys2Proof.Machine
end

