-- ==== Sys2Proof/Machine/Events.lean ====
section
/-!
DEFINITION. The meanings of the event steps (spec/41_transmit.md, spec/42_receive.md). A step that is not enabled in
a state has no row in R160 and leaves the state as it is (DEDUCED, log entry 8).
-/

namespace Sys2Proof.Machine

/-- `EDGE(t, lvl)` (R140 to R147). -/
def execEdge (t : Nat) (lvl : Level) (s : State) : StepResult := liveStep (edgeHandler t lvl) s

/-- `TXHALF` by `tx_idx` (R133, R134): a half period below 68, the completion step at 68. -/
def txHalfEffect (s : State) : State :=
  if s.status = .requestSending then
    if s.txIdx.toNat < s.cfg.completionIndex then txHalfPeriod s
    else if s.txIdx.toNat = s.cfg.completionIndex then txComplete (clock s) s
    else s
  else s

/-- `TXHALF` (R133, R134). -/
def execTxHalf (s : State) : StepResult := liveStep txHalfEffect s

/-- `TXHALF` at `tx_idx = 68` (R134). -/
def txHalfCompletionEffect (s : State) : State :=
  if s.status = .requestSending ∧ s.txIdx.toNat = s.cfg.completionIndex then txComplete (clock s) s else s

/-- `TXHALF.completion` (R134). -/
def execTxHalfCompletion (s : State) : StepResult := liveStep txHalfCompletionEffect s

/-- `WDG` at the time of the step (R149). -/
def wdgEffect (s : State) : State :=
  if watchdogDue (clock s) s then takeError .timeout (clock s) s else s

/-- `WDG` (R149). -/
def execWdg (s : State) : StepResult := liveStep wdgEffect s

end Sys2Proof.Machine
end

