-- ==== Sys2Proof/Machine/Frames.lean ====
section
/-!
DEFINITION. The meanings of the eight frame formats of the opcode table (R60 to R62, R72). A frame is data and no
step of R4: the core holds, parses and transports every frame alike, whatever its type, parity and spare bits
(R45, R72 (a) to (d)). Handing a frame word to the core therefore changes no state and gives what a reader of the
frame sees (DESIGN CHOICE, log entry 6).
-/

namespace Sys2Proof.Machine

/-- The frame word of type `m` with the given parity bit, spare bits, data-ID and data value, as read. -/
def frameStep (m : MessageType) (p : Bool) (spare : BitVec 4) (id : BitVec 8) (data : BitVec 16) (s : State) :
    StepResult :=
  pureStep (.frameView (viewFrame (packFrame p (messageTypeCode m) spare id data))) s

/-- `FRAME.READ_DATA` (R61). -/
def execFrameReadData (p : Bool) (spare : BitVec 4) (id : BitVec 8) (data : BitVec 16) (s : State) : StepResult :=
  frameStep .readData p spare id data s

/-- `FRAME.WRITE_DATA` (R61). -/
def execFrameWriteData (p : Bool) (spare : BitVec 4) (id : BitVec 8) (data : BitVec 16) (s : State) : StepResult :=
  frameStep .writeData p spare id data s

/-- `FRAME.INVALID_DATA` (R61). -/
def execFrameInvalidData (p : Bool) (spare : BitVec 4) (id : BitVec 8) (data : BitVec 16) (s : State) : StepResult :=
  frameStep .invalidData p spare id data s

/-- `FRAME.RESERVED` (R61, R72 (a)). -/
def execFrameReserved (p : Bool) (spare : BitVec 4) (id : BitVec 8) (data : BitVec 16) (s : State) : StepResult :=
  frameStep .reserved p spare id data s

/-- `FRAME.READ_ACK` (R61). -/
def execFrameReadAck (p : Bool) (spare : BitVec 4) (id : BitVec 8) (data : BitVec 16) (s : State) : StepResult :=
  frameStep .readAck p spare id data s

/-- `FRAME.WRITE_ACK` (R61). -/
def execFrameWriteAck (p : Bool) (spare : BitVec 4) (id : BitVec 8) (data : BitVec 16) (s : State) : StepResult :=
  frameStep .writeAck p spare id data s

/-- `FRAME.DATA_INVALID` (R61). -/
def execFrameDataInvalid (p : Bool) (spare : BitVec 4) (id : BitVec 8) (data : BitVec 16) (s : State) : StepResult :=
  frameStep .dataInvalid p spare id data s

/-- `FRAME.UNKNOWN_DATA_ID` (R61). -/
def execFrameUnknownDataId (p : Bool) (spare : BitVec 4) (id : BitVec 8) (data : BitVec 16) (s : State) :
    StepResult :=
  frameStep .unknownDataId p spare id data s

end Sys2Proof.Machine
end

