-- ==== Sys2Proof/Machine/Protocol.lean ====
section
/-!
DEFINITION. The meanings of the protocol operations, `cmd_op` 0 to 8 (spec/43_protocol.md).
-/

namespace Sys2Proof.Machine

/-- `begin` after the watchdog (R161). -/
def beginEffect (cb : Bool) (s : State) : State :=
  if s.status = .notInitialized then lineWrite .idle { s with status := .ready, irqEn := true, cbEn := cb } else s

/-- `begin(cb)` (R161). -/
def execBegin (cb : Bool) (s : State) : StepResult := protocolStep (beginEffect cb) s

/-- `end` after the watchdog (R162). -/
def endEffect (s : State) : State :=
  lineWrite .idle { s with status := .notInitialized, irqEn := false, cbEn := false, txIdx := 0#7 }

/-- `end()` (R162): effective in every state, `DELAY` included (U3). -/
def execEnd (s : State) : StepResult := .next (endEffect (watchdogFirst (clock s) (quiet s)))

/-- `isReady()` (R163). -/
def execIsReady (s : State) : StepResult :=
  protocolStep (fun q => giveResult (.bool (decide (q.status = .ready))) q) s

/-- `sendRequest(frame)` (R169): step 1; the later steps are polls of the blocked host. -/
def execSendRequest (frame : Frame) (s : State) : StepResult := protocolStep (startSync .frame frame) s

/-- `sendRequestAsync(frame)` (R164). -/
def execSendRequestAsync (frame : Frame) (s : State) : StepResult := protocolStep (trySend frame .request) s

/-- `sendResponse(frame)` (R165). -/
def execSendResponse (frame : Frame) (s : State) : StepResult := protocolStep (trySend frame .response) s

/-- `process()` (R166). -/
def execProcess (s : State) : StepResult := protocolStep finalise s

/-- `getLastResponse()` (R167). -/
def execGetLastResponse (s : State) : StepResult :=
  protocolStep (fun q => giveResult (.frame q.lastResponse) q) s

/-- `getLastResponseStatus()` (R168). -/
def execGetLastResponseStatus (s : State) : StepResult :=
  protocolStep (fun q => giveResult (.responseStatus q.respStatus) q) s

end Sys2Proof.Machine
end

