-- ==== Sys2Proof/Machine/Dispatch.lean ====
section
/-!
DEFINITION. One arm for each constructor of `Instr`.
-/

namespace Sys2Proof.Machine

def exec (i : Instr) (s : State) : Host.Outcome State Fault Refusal :=
  match i with
  | .beginOp cb => Sys2Proof.Machine.execBegin cb s
  | .endOp => Sys2Proof.Machine.execEnd s
  | .isReady => Sys2Proof.Machine.execIsReady s
  | .sendRequest frame => Sys2Proof.Machine.execSendRequest frame s
  | .sendRequestAsync frame => Sys2Proof.Machine.execSendRequestAsync frame s
  | .sendResponse frame => Sys2Proof.Machine.execSendResponse frame s
  | .process => Sys2Proof.Machine.execProcess s
  | .getLastResponse => Sys2Proof.Machine.execGetLastResponse s
  | .getLastResponseStatus => Sys2Proof.Machine.execGetLastResponseStatus s
  | .buildRequest ty id data => Sys2Proof.Machine.execBuildRequest ty id data s
  | .buildResponse ty id data => Sys2Proof.Machine.execBuildResponse ty id data s
  | .parity frame => Sys2Proof.Machine.execParity frame s
  | .getMessageType frame => Sys2Proof.Machine.execGetMessageType frame s
  | .getDataID frame => Sys2Proof.Machine.execGetDataID frame s
  | .isValidRequest frame => Sys2Proof.Machine.execIsValidRequest frame s
  | .isValidResponse frame => Sys2Proof.Machine.execIsValidResponse frame s
  | .getUInt frame => Sys2Proof.Machine.execGetUInt frame s
  | .getFloat frame => Sys2Proof.Machine.execGetFloat frame s
  | .temperatureToData num denPred => Sys2Proof.Machine.execTemperatureToData num denPred s
  | .isFault frame => Sys2Proof.Machine.execIsFault frame s
  | .isCentralHeatingActive frame => Sys2Proof.Machine.execIsCentralHeatingActive frame s
  | .isHotWaterActive frame => Sys2Proof.Machine.execIsHotWaterActive frame s
  | .isFlameOn frame => Sys2Proof.Machine.execIsFlameOn frame s
  | .isCoolingActive frame => Sys2Proof.Machine.execIsCoolingActive frame s
  | .isDiagnostic frame => Sys2Proof.Machine.execIsDiagnostic frame s
  | .frameReadData p spare id data => Sys2Proof.Machine.execFrameReadData p spare id data s
  | .frameWriteData p spare id data => Sys2Proof.Machine.execFrameWriteData p spare id data s
  | .frameInvalidData p spare id data => Sys2Proof.Machine.execFrameInvalidData p spare id data s
  | .frameReserved p spare id data => Sys2Proof.Machine.execFrameReserved p spare id data s
  | .frameReadAck p spare id data => Sys2Proof.Machine.execFrameReadAck p spare id data s
  | .frameWriteAck p spare id data => Sys2Proof.Machine.execFrameWriteAck p spare id data s
  | .frameDataInvalid p spare id data => Sys2Proof.Machine.execFrameDataInvalid p spare id data s
  | .frameUnknownDataId p spare id data => Sys2Proof.Machine.execFrameUnknownDataId p spare id data s
  | .edge t lvl => Sys2Proof.Machine.execEdge t lvl s
  | .txHalf => Sys2Proof.Machine.execTxHalf s
  | .txHalfCompletion => Sys2Proof.Machine.execTxHalfCompletion s
  | .wdg => Sys2Proof.Machine.execWdg s
  | .buildSetBoilerStatusRequest ch dhw cool otc ch2 => Sys2Proof.Machine.execBuildSetBoilerStatusRequest ch dhw cool otc ch2 s
  | .setBoilerStatus ch dhw cool otc ch2 => Sys2Proof.Machine.execSetBoilerStatus ch dhw cool otc ch2 s
  | .getBoilerTemperature => Sys2Proof.Machine.execGetBoilerTemperature s

end Sys2Proof.Machine
end

