-- ==== Sys2Proof/Machine/Schedule.lean ====
section
/-!
DEFINITION. Which agent moves next, and when (R8, R52, R135, R149, R208, R240): the clock runs to the earliest instant
at which an agent has a step, and at one instant the order is watchdog, edge, transmit engine, host. How the queues of
the environment are read is the model's (DESIGN CHOICE, log entry 9).
-/

namespace Sys2Proof.Machine

/-- The agents (R52, R240). -/
inductive Agent where
  | watchdog
  | line
  | engine
  | host
deriving DecidableEq, Repr

/-- What `step` does next. -/
inductive Move where
  /-- One step of an agent, from the state at the instant of the step. -/
  | run (i : Instr) (s : State)
  /-- A poll of the host blocked in a synchronous send (R169). -/
  | poll (s : State)
  /-- No agent has a step to come: the clock runs on. -/
  | wait (s : State)
  /-- The host's word is no operation. -/
  | reject (e : DecodeError)
deriving DecidableEq, Repr

/-- True microseconds until the clock shows `due`: 0 if that is past, the clock's half turn apart telling past from
future (R235; log entry 9). -/
def untilClock (due : Nat) (s : State) : Nat :=
  if elapsed s.cfg due (clock s) < 2 ^ (s.cfg.wTime - 1) then elapsed s.cfg due (clock s) else 0

/-- The clock value of the next half period, `tx_t0 + tx_idx * T_HALF` (R135). -/
def txInstant (s : State) : Nat := wrapTime s.cfg (s.txT0 + s.txIdx.toNat * s.cfg.tHalf)

/-- The first instant from now at which `elapsed > bound` (R149, R169). -/
def untilExceeds (bound : Nat) (since : Nat) (s : State) : Nat := bound + 1 - elapsed s.cfg (clock s) since

/-- When the watchdog fires (R149). -/
def watchdogTime (s : State) : Option Nat :=
  if watched s.status then some (s.now + untilExceeds s.cfg.tTimeout s.rxTs s) else none

/-- When the next transition of the line is handled (R206). -/
def lineTime (s : State) : Option Nat :=
  match s.line with
  | [] => none
  | e :: _ => some (max s.now e.time)

/-- When the transmit engine steps (R135). -/
def engineTime (s : State) : Option Nat :=
  if s.status = .requestSending ∧ s.txIdx.toNat ≤ s.cfg.completionIndex then some (s.now + untilClock (txInstant s) s) else none

/-- The first instant from now at which a poll of the blocked host ends its call: its exchange has ended, or its bound
has passed (R169). -/
def returnTime (c : SyncCall) (s : State) : Option Nat :=
  if receiveEnded s.status then some s.now
  else
    match s.cfg.tSyncTimeout with
    | none => none
    | some bound => some (s.now + untilExceeds bound c.t0 s)

/-- When the host steps: a blocked host polls at the times it chooses, and with none left as soon as its call can
return (R169; log entry 5); a free one issues its next word. -/
def hostTime (s : State) : Option Nat :=
  match s.sync with
  | some c =>
    match s.polls with
    | [] => returnTime c s
    | p :: _ => some (max s.now p)
  | none =>
    match s.host with
    | [] => none
    | h :: _ => some (max s.now h.time)

/-- An agent with its time, if it has one. -/
def candidate (a : Agent) (t : Option Nat) : Option (Nat × Agent) :=
  match t with
  | none => none
  | some n => some (n, a)

/-- The earlier of two candidates, the first of them at one instant. -/
def sooner (x y : Option (Nat × Agent)) : Option (Nat × Agent) :=
  match x, y with
  | none, y => y
  | some p, none => some p
  | some p, some q => if q.1 < p.1 then some q else some p

/-- The agent that moves next and the true time of its step (R208). -/
def nextAgent (s : State) : Option (Nat × Agent) :=
  sooner (candidate .watchdog (watchdogTime s))
    (sooner (candidate .line (lineTime s))
      (sooner (candidate .engine (engineTime s)) (candidate .host (hostTime s))))

/-- The state at the true time `t`. -/
def atTime (t : Nat) (s : State) : State := { s with now := t }

/-- The line's step: the handler reads the clock and the level (R41, R140; DESIGN CHOICE, log entry 11). -/
def lineMove (s : State) : Move :=
  match s.line with
  | [] => .wait (quiet s)
  | e :: rest => .run (.edge (clock s) (lineRead s.cfg.polIn e.pinHigh)) { s with line := rest }

/-- The engine's step (R133, R134). -/
def engineMove (s : State) : Move :=
  if s.txIdx.toNat = s.cfg.completionIndex then .run .txHalfCompletion s else .run .txHalf s

/-- The time a blocked host chose for its poll is used up. -/
def usePoll (s : State) : State := { s with polls := s.polls.tail }

/-- The host's step: a blocked host polls. -/
def hostMove (s : State) : Move :=
  match s.sync with
  | some _ => .poll (usePoll s)
  | none =>
    match s.host with
    | [] => .wait (quiet s)
    | h :: rest =>
      match decodeHost h.word with
      | .ok i => .run i { s with host := rest }
      | .error e => .reject e

/-- The step of the agent that moves next; when none has a step to come, one microsecond passes. -/
def nextMove (s : State) : Move :=
  match nextAgent s with
  | none => .wait (atTime (s.now + 1) (quiet s))
  | some (t, .watchdog) => .run .wdg (atTime t s)
  | some (t, .line) => lineMove (atTime t s)
  | some (t, .engine) => engineMove (atTime t s)
  | some (t, .host) => hostMove (atTime t s)

/-- A word handed to a free host for now, in front of its other words; transitions of the line due by now are taken
away, since they would go first (R208). -/
def placeHostWord (w : HostWord) (s : State) : State :=
  { s with
    host := { time := s.now, word := w } :: s.host
    line := s.line.filter (fun e => decide (s.now < e.time))
    sync := none }

end Sys2Proof.Machine
end

