-- ==== Sys2Proof/Machine/Step.lean ====
section
/-!
DEFINITION. One step of the machine (R8): the next agent's step, run by `exec`.
-/

namespace Sys2Proof.Machine

/-- One step of the machine. -/
def step (s : State) : Host.Outcome State Fault Refusal :=
  match nextMove s with
  | .run i t => exec i t
  | .poll t => pollSync t
  | .wait t => .next t
  | .reject e => .refused (.undecodable e)

/-- The word `w` of a row placed where the next step takes its instruction from, the host operation interface. -/
def State.withFetchWord (s : State) (nbits w : Nat) : State := placeHostWord (tableWord nbits w) s

end Sys2Proof.Machine
end

