-- ==== Sys2Proof/Safety.lean ====
section
/-!
DEFINITION. What counts as a good state, in the terms the claims use: the invariants of R33 and R22, the waveform of
R133 and R136, the timing of R135, R149 and R235; the rows of R160; a line frame as the other end sends it (R150).
-/

namespace Sys2Proof.Machine

/-! ### Invariants -/

/-- The invariants of R33 that speak of one state. -/
structure State.Inv (s : State) : Prop where
  notDelay : s.status ≠ .delay
  bitIdxBound : s.bitIdx.toNat ≤ 32
  txIdxBound : s.txIdx.toNat ≤ 68
  atRest : s.status ≠ .requestSending → s.txIdx = 0#7 ∧ s.lineOut = .idle
  attached : s.irqEn = true ↔ s.status ≠ .notInitialized
  noCallback : s.status = .notInitialized → s.cbEn = false
  fullFrame : s.status = .responseReady → s.bitIdx = 32#6

/-- The two timestamps are `W_TIME` bits wide (R10, R16, R21). -/
structure State.WidthInv (s : State) : Prop where
  rxTs : s.rxTs < 2 ^ s.cfg.wTime
  txT0 : s.txT0 < 2 ^ s.cfg.wTime

/-- The level the transmit engine has left on the line: `IDLE` before step 0, afterwards the level of half period
`tx_idx - 1` (R133). -/
def engineLevel (s : State) : Level :=
  if s.txIdx.toNat = 0 then .idle else halfLevel s.txFrame (s.txIdx.toNat - 1)

/-- While a transmission runs, the line shows what the engine drove last (R133, R136). -/
def State.WaveformInv (s : State) : Prop :=
  s.status = .requestSending → s.lineOut = engineLevel s

/-- No agent is ever late (R135, R149, R235): in a watched state the watchdog's bound has not passed, and in a
transmission the next half period lies at most `T_HALF` ahead. -/
structure State.TimingInv (s : State) : Prop where
  valid : s.cfg.Valid
  watchdogAhead : watched s.status = true → elapsed s.cfg (clock s) s.rxTs ≤ s.cfg.tTimeout
  engineAhead : s.status = .requestSending → elapsed s.cfg (txInstant s) (clock s) ≤ s.cfg.tHalf

/-- A host blocked in a synchronous send has an exchange in flight, or one that has just ended (R169). -/
structure State.SyncInv (s : State) : Prop where
  inFlight : s.sync ≠ none → s.status ≠ .notInitialized ∧ s.status ≠ .ready
  isRequest : s.sync ≠ none → s.status = .requestSending → s.txKind = .request

/-! ### The kinds of steps -/

/-- The operations of spec/40_codec.md, the pure accessor (R180) and the frame words: the steps that read only their
operands and the parameters (R118). -/
def isPure : Instr → Bool
  | .beginOp _ | .endOp | .isReady | .sendRequest _ | .sendRequestAsync _ | .sendResponse _ | .process
  | .getLastResponse | .getLastResponseStatus => false
  | .buildRequest _ _ _ | .buildResponse _ _ _ | .parity _ | .getMessageType _ | .getDataID _
  | .isValidRequest _ | .isValidResponse _ | .getUInt _ | .getFloat _ | .temperatureToData _ _
  | .isFault _ | .isCentralHeatingActive _ | .isHotWaterActive _ | .isFlameOn _ | .isCoolingActive _
  | .isDiagnostic _ => true
  | .frameReadData _ _ _ _ | .frameWriteData _ _ _ _ | .frameInvalidData _ _ _ _ | .frameReserved _ _ _ _
  | .frameReadAck _ _ _ _ | .frameWriteAck _ _ _ _ | .frameDataInvalid _ _ _ _
  | .frameUnknownDataId _ _ _ _ => true
  | .edge _ _ | .txHalf | .txHalfCompletion | .wdg => false
  | .buildSetBoilerStatusRequest _ _ _ _ _ => true
  | .setBoilerStatus _ _ _ _ _ | .getBoilerTemperature => false

/-- The event steps (R4, R78). -/
def isEvent : Instr → Bool
  | .edge _ _ | .txHalf | .txHalfCompletion | .wdg => true
  | .beginOp _ | .endOp | .isReady | .sendRequest _ | .sendRequestAsync _ | .sendResponse _ | .process
  | .getLastResponse | .getLastResponseStatus
  | .buildRequest _ _ _ | .buildResponse _ _ _ | .parity _ | .getMessageType _ | .getDataID _
  | .isValidRequest _ | .isValidResponse _ | .getUInt _ | .getFloat _ | .temperatureToData _ _
  | .isFault _ | .isCentralHeatingActive _ | .isHotWaterActive _ | .isFlameOn _ | .isCoolingActive _
  | .isDiagnostic _
  | .frameReadData _ _ _ _ | .frameWriteData _ _ _ _ | .frameInvalidData _ _ _ _ | .frameReserved _ _ _ _
  | .frameReadAck _ _ _ _ | .frameWriteAck _ _ _ _ | .frameDataInvalid _ _ _ _ | .frameUnknownDataId _ _ _ _
  | .buildSetBoilerStatusRequest _ _ _ _ _ | .setBoilerStatus _ _ _ _ _ | .getBoilerTemperature => false

/-- The protocol operations (`cmd_op` 0 to 8) and the two accessors that expand to `sendRequest` (R170, R181, R182). -/
def isProtocol (i : Instr) : Bool := !isPure i && !isEvent i

/-- The time a step acts at: the operand of an `EDGE`, else the clock (R8). -/
def stepTime (i : Instr) (s : State) : Nat :=
  match i with
  | .edge t _ => wrapTime s.cfg t
  | .beginOp _ | .endOp | .isReady | .sendRequest _ | .sendRequestAsync _ | .sendResponse _ | .process
  | .getLastResponse | .getLastResponseStatus
  | .buildRequest _ _ _ | .buildResponse _ _ _ | .parity _ | .getMessageType _ | .getDataID _
  | .isValidRequest _ | .isValidResponse _ | .getUInt _ | .getFloat _ | .temperatureToData _ _
  | .isFault _ | .isCentralHeatingActive _ | .isHotWaterActive _ | .isFlameOn _ | .isCoolingActive _
  | .isDiagnostic _
  | .frameReadData _ _ _ _ | .frameWriteData _ _ _ _ | .frameInvalidData _ _ _ _ | .frameReserved _ _ _ _
  | .frameReadAck _ _ _ _ | .frameWriteAck _ _ _ _ | .frameDataInvalid _ _ _ _ | .frameUnknownDataId _ _ _ _
  | .txHalf | .txHalfCompletion | .wdg
  | .buildSetBoilerStatusRequest _ _ _ _ _ | .setBoilerStatus _ _ _ _ _ | .getBoilerTemperature => clock s

/-! ### The transition relation (R160) -/

/-- The rows of R160 whose step is a send. -/
def sendRow (before after : DriverStatus) : Bool :=
  decide (before = .ready) && decide (after = .requestSending)

/-- The rows 5 to 7 of R160. -/
def engineRow (before after : DriverStatus) : Bool :=
  decide (before = .requestSending) &&
    (decide (after = .requestSending) || decide (after = .responseWaiting) || decide (after = .ready))

/-- The rows 8, 9, 11, 12 and 14 to 18 of R160. -/
def edgeRow (before after : DriverStatus) : Bool :=
  match before with
  | .ready => decide (after = .responseStartBit)
  | .responseWaiting => decide (after = .responseStartBit)
  | .responseStartBit => decide (after = .responseReceiving) || decide (after = .responseInvalid)
  | .responseReceiving =>
    decide (after = .responseReceiving) || decide (after = .responseReady) || decide (after = .responseInvalid)
  | .notInitialized => false
  | .delay => false
  | .requestSending => false
  | .responseReady => false
  | .responseInvalid => false

/-- The table of R160 has a row from `before` to `after` for the step `i`. -/
def hasRow (i : Instr) (before after : DriverStatus) : Bool :=
  match i with
  | .beginOp _ => decide (before = .notInitialized) && decide (after = .ready)
  | .endOp => decide (before ≠ .notInitialized) && decide (after = .notInitialized)
  | .sendRequest _ => sendRow before after
  | .sendRequestAsync _ => sendRow before after
  | .sendResponse _ => sendRow before after
  | .setBoilerStatus _ _ _ _ _ => sendRow before after
  | .getBoilerTemperature => sendRow before after
  | .process => receiveEnded before && decide (after = .ready)
  | .txHalf => engineRow before after
  | .txHalfCompletion => engineRow before after
  | .edge _ _ => edgeRow before after
  | .wdg => watched before && decide (after = .responseInvalid)
  | .isReady | .getLastResponse | .getLastResponseStatus
  | .buildRequest _ _ _ | .buildResponse _ _ _ | .parity _ | .getMessageType _ | .getDataID _
  | .isValidRequest _ | .isValidResponse _ | .getUInt _ | .getFloat _ | .temperatureToData _ _
  | .isFault _ | .isCentralHeatingActive _ | .isHotWaterActive _ | .isFlameOn _ | .isCoolingActive _
  | .isDiagnostic _
  | .frameReadData _ _ _ _ | .frameWriteData _ _ _ _ | .frameInvalidData _ _ _ _ | .frameReserved _ _ _ _
  | .frameReadAck _ _ _ _ | .frameWriteAck _ _ _ _ | .frameDataInvalid _ _ _ _ | .frameUnknownDataId _ _ _ _
  | .buildSetBoilerStatusRequest _ _ _ _ _ => false

/-! ### A line frame as the other end sends it (R66, R67, R150) -/

/-- The transitions of one bit cell that starts at `t`, for half periods of `h` µs: the boundary transition if the
level before the cell is not the level of its first half, then the mid-bit transition. -/
def cellEdges (before : Level) (b : Bool) (t : Nat) (h : Nat) : List (Nat × Level) :=
  (if before = firstHalf b then [] else [(t, firstHalf b)]) ++ [(t + h, secondHalf b)]

/-- The level on the wire before line bit `j` of the line frame of `f`: at rest `IDLE`, then the second half of the
bit before. -/
def levelBefore (f : Frame) (j : Nat) : Level :=
  if j = 0 then .idle else secondHalf (lineBit f (j - 1))

/-- The transitions of line bits 0 to `n - 1` of the line frame of `f` whose start bit begins at `t0`, with half
periods of `h` µs. -/
def lineEdges (f : Frame) (t0 : Nat) (h : Nat) : Nat → List (Nat × Level)
  | 0 => []
  | n + 1 =>
    lineEdges f t0 h n ++ cellEdges (levelBefore f n) (lineBit f n) (t0 + 2 * n * h) h

/-- A run of `EDGE` steps. -/
def runEdges : List (Nat × Level) → State → StepResult
  | [], s => .next s
  | e :: es, s =>
    match exec (.edge e.1 e.2) s with
    | .next s' => runEdges es s'
    | .fault r => .fault r
    | .refused r => .refused r

/-- `k` steps of the transmit engine, each at its instant (R135). -/
def runEngine : Nat → State → StepResult
  | 0, s => .next s
  | k + 1, s =>
    match exec .txHalf (atTime (s.now + elapsed s.cfg (txInstant s) (clock s)) s) with
    | .next s' => runEngine k s'
    | .fault r => .fault r
    | .refused r => .refused r

/-- The number of set bits of a frame (R6). -/
def popcount (f : Frame) : Nat := (List.range 32).countP (fun k => f.getLsbD k)

end Sys2Proof.Machine
end

