-- ==== Sys2Proof/Certificates/Slice0/Obligations.lean ====
section
/-!
DEFINITION. The statements for the provers. Next states are written out as updates of the state before, so a statement
of a result is also its frame: every element not named is unchanged. `out` holds the step's outputs (log entry 3).
-/

open Sys2Proof Sys2Proof.Machine

/-! ### Reset and invariants -/

/-- R34: the value of every element of the core after reset. (Basis: the values other than that of `status` are the
spec's own decision D32.) -/
def Obligations.ResetStateHasTheResetValues : Prop :=
  ∀ c : Config,
    (State.resetWith c).status = .notInitialized ∧ (State.resetWith c).respStatus = .none ∧
    (State.resetWith c).lastResponse = 0x00000000#32 ∧ (State.resetWith c).rxShift = 0x00000000#32 ∧
    (State.resetWith c).bitIdx = 0 ∧ (State.resetWith c).rxTs = 0 ∧ (State.resetWith c).pendCause = .framing ∧
    (State.resetWith c).txFrame = 0x00000000#32 ∧ (State.resetWith c).txIdx = 0 ∧
    (State.resetWith c).txKind = .request ∧ (State.resetWith c).txT0 = 0 ∧ (State.resetWith c).lineOut = .idle ∧
    (State.resetWith c).irqEn = false ∧ (State.resetWith c).cbEn = false ∧ (State.resetWith c).cfg = c

/-- The state after reset meets the invariants, the timing ones for every valid choice of the parameters; the default
parameters are valid (R5). (Basis: R33 is the spec's own derivation; the default parameters rest on log entry 1;
`Config.Valid` is log entry 12 (DEDUCED).) -/
def Obligations.ResetMeetsTheInvariants : Prop :=
  (∀ c : Config, (State.resetWith c).Inv ∧ (State.resetWith c).WidthInv ∧ (State.resetWith c).WaveformInv ∧ (State.resetWith c).SyncInv ∧
    (c.Valid → (State.resetWith c).TimingInv)) ∧
  Config.default.Valid ∧ State.reset = State.resetWith Config.default

/-- The invariants of R33 that speak of one state are kept by every instruction and by every step. (Basis: R33 is the
spec's own derivation.) -/
def Obligations.StepsKeepTheStateInvariants : Prop :=
  (∀ (i : Instr) (s t : State), s.Inv → exec i s = .next t → t.Inv) ∧
  (∀ s t : State, s.Inv → step s = .next t → t.Inv)

/-- R10, R16, R21, R43: the two timestamps stay below `2^W_TIME`, for every width of the clock and every time an edge
is handed in with. (Basis: `W_TIME` is the spec's own decision D2; how times are kept in that width is log entry 13
(DEDUCED).) -/
def Obligations.StepsKeepTheTimestampsInTheirWidth : Prop :=
  (∀ (i : Instr) (s t : State), s.WidthInv → exec i s = .next t → t.WidthInv) ∧
  (∀ s t : State, s.WidthInv → step s = .next t → t.WidthInv)

/-- R133, R136: while a transmission runs, every step leaves the line at the level of the half period the engine drove
last, whatever the host and the line do meanwhile. (Basis: R136 is the spec's own derivation.) -/
def Obligations.StepsKeepTheLineAtTheWaveform : Prop :=
  ∀ s t : State, s.Inv → s.WaveformInv → step s = .next t → t.WaveformInv

/-- R135, R149, R235: no agent is ever late. In a watched state the watchdog's bound has not passed, and in a
transmission the next half period is at most `T_HALF` ahead, after every step. (Basis: R235 is the spec's own
derivation; the schedule rests on its decisions D9 and D19 and on log entry 9; `Config.Valid` is log entry 12
(DEDUCED).) -/
def Obligations.StepsKeepEveryAgentOnTime : Prop :=
  ∀ s t : State, s.Inv → s.TimingInv → step s = .next t → t.TimingInv

/-- A host blocked in a synchronous send stays so only while its exchange is in flight or has just ended (R169; the
blocking is the model's field `sync`, log entry 5). (Basis: the blocked host is the model's field `sync`, log entry
5.) -/
def Obligations.StepsKeepABlockedHostInAnExchange : Prop :=
  ∀ s t : State, s.SyncInv → step s = .next t → t.SyncInv

/-- The parameters are never written (R5, R32, R213), the clock is not moved by an instruction, and no step moves it
back (R43). (Basis: the fields `cfg`, `now`, `line`, `host` and `polls` are the model's, log entries 1, 2 and 5.) -/
def Obligations.ParametersStayAndTimeNeverRunsBack : Prop :=
  (∀ (i : Instr) (s t : State), exec i s = .next t →
    t.cfg = s.cfg ∧ t.now = s.now ∧ t.line = s.line ∧ t.host = s.host ∧ t.polls = s.polls) ∧
  (∀ s t : State, step s = .next t → t.cfg = s.cfg ∧ s.now ≤ t.now)

/-! ### Rules of the whole machine -/

/-- R12, R13, R25, R27, R33: only `process` writes the two results and raises the callback; it writes `rx_shift` and a
status that is not `NONE`, or nothing; a poll of a blocked host writes what `process` would (R27); once written, the
status is never `NONE` again. (Basis: the spec's own decisions D21 and D22.) -/
def Obligations.OnlyProcessWritesTheResults : Prop :=
  (∀ (i : Instr) (s t : State), i ≠ .process → exec i s = .next t →
    t.lastResponse = s.lastResponse ∧ t.respStatus = s.respStatus ∧ t.out.callback = none) ∧
  (∀ s t : State, exec .process s = .next t →
    (t.lastResponse = s.lastResponse ∧ t.respStatus = s.respStatus ∧ t.out.callback = none) ∨
    (t.lastResponse = s.rxShift ∧ t.respStatus ≠ .none ∧ t.status = .ready ∧
      t.out.callback = if s.cbEn then some (s.rxShift, t.respStatus) else none)) ∧
  (∀ s t : State, s.sync ≠ none → pollSync s = .next t → ∃ u, exec .process s = .next u ∧
    t.lastResponse = u.lastResponse ∧ t.respStatus = u.respStatus ∧ t.out.callback = u.out.callback) ∧
  (∀ s t : State, s.respStatus ≠ .none → step s = .next t → t.respStatus ≠ .none)

/-- R22, R42: the output line is written by `begin`, `end` and the transmit engine only; a poll of a blocked host
leaves it too. The pin follows it through `POL_OUT`: it is high exactly when the line is at the level that the
polarity makes high, it rests where the line rests, and what leaves the line leaves the pin. (Basis: that the line
rests outside a transmission is the spec's own derivation in R22 and R33.) -/
def Obligations.OnlyBeginEndAndTheEngineDriveTheLine : Prop :=
  (∀ (i : Instr) (s t : State), (∀ cb, i ≠ .beginOp cb) → i ≠ .endOp → i ≠ .txHalf → i ≠ .txHalfCompletion →
    exec i s = .next t → t.lineOut = s.lineOut ∧ outputPin t = outputPin s) ∧
  (∀ s t : State, pollSync s = .next t → t.lineOut = s.lineOut ∧ outputPin t = outputPin s) ∧
  (∀ s : State, outputPin s = true ↔ (s.lineOut = .active ↔ s.cfg.polOut = .activeHigh)) ∧
  (∀ s : State, s.Inv → s.status ≠ .requestSending → outputPin s = decide (s.cfg.polOut = .activeLow))

/-- R18, R55: a transmission in flight keeps the frame it was started with, its kind and its start time, whatever is
issued meanwhile. (Basis: the spec's own decision D29.) -/
def Obligations.TransmissionInFlightKeepsItsFrame : Prop :=
  ∀ (i : Instr) (s t : State), s.status = .requestSending → exec i s = .next t →
    t.txFrame = s.txFrame ∧ t.txKind = s.txKind ∧ t.txT0 = s.txT0

/-- R140, R212: an edge writes `status`, `rx_shift`, `bit_idx`, `rx_ts` and `pend_cause` only, returns nothing and
never raises the callback strobe. -/
def Obligations.EdgeWritesOnlyTheReceiveElements : Prop :=
  ∀ (t : Nat) (lvl : Level) (s u : State), exec (.edge t lvl) s = .next u →
    u = { s with status := u.status, rxShift := u.rxShift, bitIdx := u.bitIdx, rxTs := u.rxTs,
                 pendCause := u.pendCause, out := u.out } ∧
    u.out.result = .none ∧ u.out.callback = none

/-- R160: where the watchdog is not due at the step's time, `status` changes along a row of the table or not at all;
`WDG` has its own rows. (Basis: R160 rests on the spec's own decision D23.) -/
def Obligations.StatusFollowsTheTransitionTable : Prop :=
  ∀ (i : Instr) (s t : State), (i = .wdg ∨ watchdogDue (stepTime i s) s = false) → exec i s = .next t →
    t.status = s.status ∨ hasRow i s.status t.status = true

/-- R160: a pair of state and step that has no row in the table leaves every element unchanged; only the outputs of
the step differ. `DELAY`, which has no step (C6), is left out; what an edge in `RESPONSE_RECEIVING` writes in rows 14
and 15 stands in its own statement. (Basis: R160 rests on the spec's own decision D23.) -/
def Obligations.NoRowMeansNoChange : Prop :=
  ∀ (i : Instr) (s : State), s.status ≠ .delay → (i = .wdg ∨ watchdogDue (stepTime i s) s = false) →
    (∀ after, hasRow i s.status after = false) → (i = .endOp → s.Inv) →
    ∃ o : Outputs, exec i s = .next { s with out := o }

/-- C6, R72 (e), U3: a state holding `DELAY` has no step of any agent but `end`: protocol operations, event steps and
polls of a blocked host stop, `end` leaves it. The pure steps read no state and are no step of an agent on it. (Basis:
the spec's own decisions D7 and D23, log entry 7.) (Basis: the spec's own decisions D7 and D23, log entry 7.) -/
def Obligations.DelayHasNoStepButEnd : Prop :=
  (∀ (i : Instr) (s : State), s.status = .delay → isPure i = false → i ≠ .endOp →
    exec i s = .fault .stuckInDelay) ∧
  (∀ s : State, s.status = .delay → s.sync ≠ none → pollSync s = .fault .stuckInDelay) ∧
  (∀ s : State, s.status = .delay →
    exec .endOp s = .next { s with status := .notInitialized, irqEn := false, cbEn := false, txIdx := 0,
                                   lineOut := .idle, out := Outputs.silent })

/-- R118: the codec operations give one result whatever the state, the time and the role, and change nothing; the
watchdog does not precede them. The same holds for the frame words (log entry 6) and the pure accessor. The two
parameters that a result can show are `STATUS_PRED_SHIFT` and `ID_STATUS`. -/
def Obligations.PureStepsReadOnlyTheirOperands : Prop :=
  ∀ (i : Instr) (c : Config), isPure i = true →
    ∃ r : Result, ∀ s : State, s.cfg.statusPredShift = c.statusPredShift → s.cfg.idStatus = c.idStatus →
      exec i s = .next { s with out := Outputs.returning r }

/-- R170, R140: a protocol operation, or an edge while the interrupt is attached, acts on the state that results after
the watchdog has acted at its own instant `rx_ts + T_TIMEOUT + 1`; the time-out is reported first. (Basis: the spec's
own decisions D19 and D46; that an edge's time is read modulo `2^W_TIME` is log entry 13 (DEDUCED).) -/
def Obligations.WatchdogActsBeforeEveryOperation : Prop :=
  ∀ (i : Instr) (s : State), isProtocol i = true ∨ (s.irqEn = true ∧ ∃ t lvl, i = .edge t lvl) →
    watched s.status = true → s.cfg.tTimeout < elapsed s.cfg (stepTime i s) s.rxTs →
    ∃ u : State,
      exec i { s with status := .responseInvalid, pendCause := .timeout,
                      rxTs := (s.rxTs + (s.cfg.tTimeout + 1)) % 2 ^ s.cfg.wTime } = .next u ∧
      exec i s = .next { u with out := { u.out with reports := .timeout :: u.out.reports } }

/-! ### A step of the machine -/

/-- A step runs the decoded instruction: a word of a free host that decodes to `i`, when every other agent's next step
lies later, is run by `exec` at the instant of the word, the word taken away; a word that does not decode is refused.
(Basis: the queue of host words is the model's, log entries 2 and 9.) -/
def Obligations.StepRunsTheDecodedHostWord : Prop :=
  ∀ (s : State) (h : HostItem) (rest : List HostItem), s.sync = none → s.host = h :: rest →
    (∀ u ∈ watchdogTime s, max s.now h.time < u) → (∀ u ∈ lineTime s, max s.now h.time < u) →
    (∀ u ∈ engineTime s, max s.now h.time < u) →
    (∀ i, decodeHost h.word = .ok i → step s = exec i { s with now := max s.now h.time, host := rest }) ∧
    (∀ e, decodeHost h.word = .error e → step s = .refused (.undecodable e))

/-- R208: at one instant the watchdog goes first, then the transitions of the line, then the transmit engine, then the
host; a blocked host polls, and when no agent has a step to come one microsecond passes. (Basis: the order is the
spec's own decision D40, the scheduler log entry 9; the time and level of an edge are log entry 11, the polls log
entry 5.) -/
def Obligations.StepFollowsTheOrderOfAgents : Prop :=
  ∀ s : State,
    (∀ t ∈ watchdogTime s, (∀ u ∈ lineTime s, t ≤ u) → (∀ u ∈ engineTime s, t ≤ u) → (∀ u ∈ hostTime s, t ≤ u) →
      step s = exec .wdg { s with now := t }) ∧
    (∀ e rest, s.line = e :: rest → (∀ u ∈ watchdogTime s, max s.now e.time < u) →
      (∀ u ∈ engineTime s, max s.now e.time ≤ u) → (∀ u ∈ hostTime s, max s.now e.time ≤ u) →
      step s = exec (.edge (max s.now e.time % 2 ^ s.cfg.wTime) (lineRead s.cfg.polIn e.pinHigh))
        { s with now := max s.now e.time, line := rest }) ∧
    (∀ t ∈ engineTime s, (∀ u ∈ watchdogTime s, t < u) → (∀ u ∈ lineTime s, t < u) → (∀ u ∈ hostTime s, t ≤ u) →
      step s = exec .txHalf { s with now := t }) ∧
    (∀ t ∈ hostTime s, s.sync ≠ none → (∀ u ∈ watchdogTime s, t < u) → (∀ u ∈ lineTime s, t < u) →
      (∀ u ∈ engineTime s, t < u) → step s = pollSync { s with now := t, polls := s.polls.tail }) ∧
    (watchdogTime s = none → s.line = [] → engineTime s = none → hostTime s = none →
      step s = .next { s with now := s.now + 1, out := Outputs.silent })

/-- R169, R240: a blocked host polls at the times it chooses, however late; with none left it polls as soon as its
call can return: at once when the receive has ended, else at the first instant past its bound, or never when the bound
never expires. (Basis: the list of its times is the model's, log entry 5.) -/
def Obligations.BlockedHostPollsWhenItChooses : Prop :=
  ∀ (c : SyncCall) (s : State), s.sync = some c →
    (∀ p rest, s.polls = p :: rest → (∀ u ∈ watchdogTime s, max s.now p < u) →
      (∀ u ∈ lineTime s, max s.now p < u) → (∀ u ∈ engineTime s, max s.now p < u) →
      step s = pollSync { s with now := max s.now p, polls := rest }) ∧
    (s.polls = [] → s.status = .responseReady ∨ s.status = .responseInvalid →
      (∀ u ∈ lineTime s, s.now < u) → step s = pollSync s) ∧
    (s.polls = [] → s.status ≠ .responseReady → s.status ≠ .responseInvalid →
      hostTime s = s.cfg.tSyncTimeout.map (fun b => s.now + (b + 1 - elapsed s.cfg (clock s) c.t0)))

/-- R169: once the receive has ended, the poll that finalises it leaves the same state and returns the same result
whenever the host polls; a late host gets the frame even past `T_SYNC_TIMEOUT`. (Basis: the poll is the model's form
of the call's steps 2.., log entry 5.) -/
def Obligations.FinalisingPollDoesNotDependOnItsTime : Prop :=
  ∀ (s t : State) (n : Nat), s.status = .responseReady ∨ s.status = .responseInvalid → pollSync s = .next t →
    pollSync { s with now := n } = .next { t with now := n }

/-- R43, R117 (f): `elapsed` is the true difference of two clock readings whenever that is below `2^W_TIME`, for every
width of the clock, and is always below it. (Basis: `W_TIME` is the spec's own decision D2; that a time outside the
width is reduced is log entry 13 (DEDUCED).) -/
def Obligations.ElapsedIsTheTrueDifference : Prop :=
  ∀ (c : Config) (a b : Nat), elapsed c b a < 2 ^ c.wTime ∧
    (a ≤ b → b - a < 2 ^ c.wTime → elapsed c (b % 2 ^ c.wTime) (a % 2 ^ c.wTime) = b - a)

/-- R149: the watchdog is urgent. In a watched state that is on time, with nothing else to come before it, the next
step is `WDG` and leaves `RESPONSE_INVALID` with `rx_ts` one microsecond past the bound. (Basis: the spec's own
decisions D18 and D19; `Config.Valid` is log entry 12 (DEDUCED).) -/
def Obligations.WatchdogFiresOneMicrosecondPastTheBound : Prop :=
  ∀ s : State, s.TimingInv → watched s.status = true →
    (∀ u ∈ lineTime s, s.now + (s.cfg.tTimeout + 1 - elapsed s.cfg (clock s) s.rxTs) ≤ u) →
    (∀ u ∈ hostTime s, s.now + (s.cfg.tTimeout + 1 - elapsed s.cfg (clock s) s.rxTs) ≤ u) →
    step s = .next { s with now := s.now + (s.cfg.tTimeout + 1 - elapsed s.cfg (clock s) s.rxTs),
                            status := .responseInvalid, pendCause := .timeout,
                            rxTs := (s.rxTs + (s.cfg.tTimeout + 1)) % 2 ^ s.cfg.wTime,
                            out := Outputs.reporting .timeout }

/-! ### Encoding -/

/-- Every well-formed instruction is read back from its word with every operand. (Basis: the operand bytes of a
command word are log entry 4.) -/
def Obligations.DecodeReadsWhatEncodeWrites : Prop :=
  ∀ i : Instr, WellFormed i = true → decode (encode i) = .ok i

/-- A word that decodes is the word of the instruction it decodes to, which is well formed: no two words stand for one
instruction and no bit of a word is dropped. (Basis: the operand bytes of a command word are log entry 4.) -/
def Obligations.EncodeWritesWhatDecodeRead : Prop :=
  ∀ (w : Word) (i : Instr), decode w = .ok i → WellFormed i = true ∧ encode i = w

/-- R72 (f), U4: the selectors 9 to 15 name no operation, whatever bytes follow, and a selector byte above 31 is no
selector of 5 bits (R70); the decoder rejects them by name. (Basis: the spec's own decisions D7 and D33, log entry 4.)
-/
def Obligations.ReservedSelectorsAreRejected : Prop :=
  ∀ (b : Byte) (rest : List Byte),
    (9 ≤ b.toNat → b.toNat ≤ 15 → decodeHost (.cmd (b :: rest)) = .error .reservedSelector ∧
      ∀ num denPred, decodeHost (.realCmd b num denPred) = .error .reservedSelector) ∧
    (32 ≤ b.toNat → decodeHost (.cmd (b :: rest)) = .error .selectorTooWide ∧
      ∀ num denPred, decodeHost (.realCmd b num denPred) = .error .selectorTooWide)

/-- Words written out from R60, R61 and R70 decode to the operation they stand for; the operand bytes follow the
model's layout (log entry 4). (Basis: the operand bytes of a command word are log entry 4.) -/
def Obligations.SampleWordsDecode : Prop :=
  decode (.host (.cmd [0x00#8, 0x01#8])) = .ok (.beginOp true) ∧
  decode (.host (.cmd [0x06#8])) = .ok .process ∧
  decode (.host (.cmd [0x04#8, 0x00#8, 0x00#8, 0x19#8, 0x80#8])) = .ok (.sendRequestAsync 0x80190000#32) ∧
  decode (.host (.cmd [0x10#8, 0x00#8, 0x00#8, 0x19#8, 0x00#8, 0x80#8, 0x3C#8, 0x00#8, 0x00#8])) =
    .ok (.buildRequest 0 25 0x3C80) ∧
  decode (.host (.cmd [0x18#8, 0x80#8, 0x3C#8, 0x19#8, 0xC0#8])) = .ok (.getFloat 0xC0193C80#32) ∧
  decode (.host (.realCmd 0x19#8 121 1)) = .ok (.temperatureToData 121 1) ∧
  decode (.host (.frame32 [0x80#8, 0x3C#8, 0x19#8, 0xC0#8])) = .ok (.frameReadAck true 0#4 25#8 0x3C80#16) ∧
  decode (.host (.frame32 [0x00#8, 0x01#8, 0x00#8, 0x10#8])) = .ok (.frameWriteData false 0#4 0#8 0x0100#16)

/-! ### Codec -/

/-- R100, R101, R71: both builders return the frame whose fields are the operands truncated to 3, 8 and 16 bits, whose
spare bits are 0 and whose parity bit makes the number of set bits even. (Basis: the spec's own decision D34.) -/
def Obligations.BuildersPlaceFieldsAndEvenParity : Prop :=
  ∀ (ty id data : Nat) (s : State), ∃ f : Frame,
    exec (.buildRequest ty id data) s = .next { s with out := Outputs.returning (.frame f) } ∧
    exec (.buildResponse ty id data) s = .next { s with out := Outputs.returning (.frame f) } ∧
    f.toNat % 2 ^ 31 = ty % 8 * 2 ^ 28 + id % 256 * 2 ^ 16 + data % 65536 ∧
    popcount f % 2 = 0

/-- R100's laws: what was built is read back by `parity`, `getMessageType`, `getDataID` and `getUInt`. (Basis: the
laws are the spec's own derivation in R100.) -/
def Obligations.BuiltFramesReadBack : Prop :=
  ∀ (m : MessageType) (id : BitVec 8) (data : BitVec 16) (s : State), ∃ f : Frame,
    exec (.buildRequest (messageTypeCode m).toNat id.toNat data.toNat) s =
      .next { s with out := Outputs.returning (.frame f) } ∧
    exec (.parity f) s = .next { s with out := Outputs.returning (.bool false) } ∧
    exec (.getMessageType f) s = .next { s with out := Outputs.returning (.messageType m) } ∧
    exec (.getDataID f) s = .next { s with out := Outputs.returning (.dataId id) } ∧
    exec (.getUInt f) s = .next { s with out := Outputs.returning (.u16 data) }

/-- R102: `parity` is true exactly when the number of set bits is odd, and flipping any one bit flips it. -/
def Obligations.ParityIsOddPopcount : Prop :=
  ∀ (f : Frame) (s : State),
    exec (.parity f) s = .next { s with out := Outputs.returning (.bool (decide (popcount f % 2 = 1))) } ∧
    ∀ k < 32, exec (.parity (f ^^^ (1#32 <<< k))) s =
      .next { s with out := Outputs.returning (.bool (decide (popcount f % 2 = 0))) }

/-- R103, R104, R107: the three extractions are the bits 30 to 28, 23 to 16 and 15 to 0 of the frame, with no
validation. -/
def Obligations.ExtractionReadsTheFields : Prop :=
  ∀ (f : Frame) (s : State),
    (∃ m : MessageType, (messageTypeCode m).toNat = f.toNat / 2 ^ 28 % 8 ∧
      exec (.getMessageType f) s = .next { s with out := Outputs.returning (.messageType m) }) ∧
    exec (.getDataID f) s =
      .next { s with out := Outputs.returning (.dataId (BitVec.ofNat 8 (f.toNat / 2 ^ 16))) } ∧
    exec (.getUInt f) s = .next { s with out := Outputs.returning (.u16 (BitVec.ofNat 16 f.toNat)) }

/-- R105, R106: a frame is valid exactly when its parity is even and frame bit 30 names the family. -/
def Obligations.ValidityIsParityAndFamily : Prop :=
  ∀ (f : Frame) (s : State),
    exec (.isValidRequest f) s =
      .next { s with out := Outputs.returning (.bool (decide (popcount f % 2 = 0 ∧ f.toNat / 2 ^ 30 % 2 = 0))) } ∧
    exec (.isValidResponse f) s =
      .next { s with out := Outputs.returning (.bool (decide (popcount f % 2 = 0 ∧ f.toNat / 2 ^ 30 % 2 = 1))) }

/-- R109: `getFloat` is the low 16 bits, read as signed, over 256. (Basis: that the two forms of R109 are equal is the
spec's own derivation.) -/
def Obligations.GetFloatIsSignedOver256 : Prop :=
  ∀ (f : Frame) (s : State),
    exec (.getFloat f) s = .next { s with out := Outputs.returning (.real (BitVec.ofNat 16 f.toNat).toInt) }

/-- R110: the operand times 256 is rounded to the nearest integer, ties away from zero, clamped to -32768 .. 32767 and
returned as its two's-complement pattern. (Basis: rounding and clamp are the spec's own decision D35.) -/
def Obligations.TemperatureIsRoundedAndClamped : Prop :=
  ∀ (num : Int) (denPred : Nat) (s : State), ∃ v : BitVec 16,
    exec (.temperatureToData num denPred) s = .next { s with out := Outputs.returning (.u16 v) } ∧
    v.toInt = min (max
      (if 0 ≤ num then ⌊(num : ℚ) / ((denPred : ℚ) + 1) * 256 + 1 / 2⌋
        else -⌊-((num : ℚ) / ((denPred : ℚ) + 1) * 256) + 1 / 2⌋) (-32768)) 32767

/-- R110's law: in the range of f8.8 the value read back from any frame that carries the result differs from the
operand by at most 1/512, and a multiple of 1/256 is read back exactly. (Basis: the law is the spec's own derivation
in R110.) -/
def Obligations.TemperatureRoundTripIsWithin512th : Prop :=
  ∀ (num : Int) (denPred : Nat) (s : State),
    -128 ≤ (num : ℚ) / ((denPred : ℚ) + 1) → (num : ℚ) / ((denPred : ℚ) + 1) ≤ 32767 / 256 →
    ∃ v : BitVec 16, exec (.temperatureToData num denPred) s = .next { s with out := Outputs.returning (.u16 v) } ∧
      ∀ f : Frame, BitVec.ofNat 16 f.toNat = v →
        ∃ n : Int, exec (.getFloat f) s = .next { s with out := Outputs.returning (.real n) } ∧
          |(n : ℚ) / 256 - (num : ℚ) / ((denPred : ℚ) + 1)| ≤ 1 / 512 ∧
          (∀ k : Int, (num : ℚ) / ((denPred : ℚ) + 1) = (k : ℚ) / 256 → n = k)

/-- R111 to R116: each predicate reads one bit of the byte at `STATUS_PRED_SHIFT`: bits 0, 1, 2, 3, 4 and 6. (Basis:
the bit places are the spec's own decision D36.) (Basis: the bit places are the spec's own decision D36.) -/
def Obligations.StatusPredicatesReadOneBit : Prop :=
  ∀ (f : Frame) (s : State),
    exec (.isFault f) s =
      .next { s with out := Outputs.returning (.bool (decide (f.toNat / 2 ^ (s.cfg.statusPredShift + 0) % 2 = 1))) } ∧
    exec (.isCentralHeatingActive f) s =
      .next { s with out := Outputs.returning (.bool (decide (f.toNat / 2 ^ (s.cfg.statusPredShift + 1) % 2 = 1))) } ∧
    exec (.isHotWaterActive f) s =
      .next { s with out := Outputs.returning (.bool (decide (f.toNat / 2 ^ (s.cfg.statusPredShift + 2) % 2 = 1))) } ∧
    exec (.isFlameOn f) s =
      .next { s with out := Outputs.returning (.bool (decide (f.toNat / 2 ^ (s.cfg.statusPredShift + 3) % 2 = 1))) } ∧
    exec (.isCoolingActive f) s =
      .next { s with out := Outputs.returning (.bool (decide (f.toNat / 2 ^ (s.cfg.statusPredShift + 4) % 2 = 1))) } ∧
    exec (.isDiagnostic f) s =
      .next { s with out := Outputs.returning (.bool (decide (f.toNat / 2 ^ (s.cfg.statusPredShift + 6) % 2 = 1))) }

/-- What the eight frame words give (R60 to R62, R72 (b); that handing a frame word to the core gives its reading is
the model's choice, log entry 6): the fields as encoded, the family of the type, and validity in that family exactly
when the number of set bits is even. (Basis: that handing a frame word to the core gives its reading is log entry 6.)
-/
def Obligations.FrameWordsAreRead : Prop :=
  ∀ (p : Bool) (spare : BitVec 4) (id : BitVec 8) (data : BitVec 16) (s : State),
    (∀ (i : Instr) (m : MessageType),
      (i, m) ∈ [(Instr.frameReadData p spare id data, MessageType.readData),
                (Instr.frameWriteData p spare id data, MessageType.writeData),
                (Instr.frameInvalidData p spare id data, MessageType.invalidData),
                (Instr.frameReserved p spare id data, MessageType.reserved)] →
      exec i s = .next { s with out := Outputs.returning (.frameView
        { parityOdd := decide (popcount (packFrame p (messageTypeCode m) spare id data) % 2 = 1), messageType := m,
          family := .requester, spare := spare, id := id, data := data,
          validRequest := decide (popcount (packFrame p (messageTypeCode m) spare id data) % 2 = 0),
          validResponse := false }) }) ∧
    (∀ (i : Instr) (m : MessageType),
      (i, m) ∈ [(Instr.frameReadAck p spare id data, MessageType.readAck),
                (Instr.frameWriteAck p spare id data, MessageType.writeAck),
                (Instr.frameDataInvalid p spare id data, MessageType.dataInvalid),
                (Instr.frameUnknownDataId p spare id data, MessageType.unknownDataId)] →
      exec i s = .next { s with out := Outputs.returning (.frameView
        { parityOdd := decide (popcount (packFrame p (messageTypeCode m) spare id data) % 2 = 1), messageType := m,
          family := .responder, spare := spare, id := id, data := data, validRequest := false,
          validResponse := decide (popcount (packFrame p (messageTypeCode m) spare id data) % 2 = 0) }) })

/-! ### Protocol operations -/

/-- R161: `begin` starts a core that is not initialized and does nothing to one that is. (Basis: the spec's own
decision D24.) -/
def Obligations.BeginStartsOnlyAStoppedCore : Prop :=
  ∀ (cb : Bool) (s : State),
    (s.status = .notInitialized → exec (.beginOp cb) s = .next
      { s with status := .ready, irqEn := true, cbEn := cb, lineOut := .idle, out := Outputs.silent }) ∧
    (s.status ≠ .notInitialized → s.status ≠ .delay → watchdogDue (clock s) s = false →
      exec (.beginOp cb) s = .next { s with out := Outputs.silent })

/-- R162: `end` stops the core from every state and keeps every element but the five it writes. (Basis: the spec's own
decision D24.) -/
def Obligations.EndStopsTheCore : Prop :=
  ∀ s : State, watchdogDue (clock s) s = false → exec .endOp s = .next
    { s with status := .notInitialized, irqEn := false, cbEn := false, txIdx := 0, lineOut := .idle,
             out := Outputs.silent }

/-- R163, R167, R168: the three queries return what the state holds and write nothing; where the watchdog is due it
acts first (R170), which changes none of the three results. (Basis: that a watchdog that is due acts first is the
spec's own decisions D19 and D46.) -/
def Obligations.QueriesReturnTheState : Prop :=
  ∀ s : State, s.status ≠ .delay →
    (∃ t, exec .isReady s = .next t ∧ t.out.result = .bool (decide (s.status = .ready))) ∧
    (∃ t, exec .getLastResponse s = .next t ∧ t.out.result = .frame s.lastResponse) ∧
    (∃ t, exec .getLastResponseStatus s = .next t ∧ t.out.result = .responseStatus s.respStatus) ∧
    (watchdogDue (clock s) s = false →
      exec .isReady s = .next { s with out := Outputs.returning (.bool (decide (s.status = .ready))) } ∧
      exec .getLastResponse s = .next { s with out := Outputs.returning (.frame s.lastResponse) } ∧
      exec .getLastResponseStatus s = .next { s with out := Outputs.returning (.responseStatus s.respStatus) })

/-- R164, R165, R132, R54: a send in `READY` is accepted and claims the engine in one step; in every other state it
returns `false` and writes nothing. (Basis: the spec's own decisions D25, D26 and D27.) -/
def Obligations.AsynchronousSendsAreAcceptedOnlyInReady : Prop :=
  ∀ (f : Frame) (s : State),
    (s.status = .ready →
      exec (.sendRequestAsync f) s = .next
        { s with txFrame := f, txKind := .request, txT0 := s.now % 2 ^ s.cfg.wTime, txIdx := 0,
                 status := .requestSending, out := Outputs.returning (.bool true) } ∧
      exec (.sendResponse f) s = .next
        { s with txFrame := f, txKind := .response, txT0 := s.now % 2 ^ s.cfg.wTime, txIdx := 0,
                 status := .requestSending, out := Outputs.returning (.bool true) }) ∧
    (s.status ≠ .ready → s.status ≠ .delay → watchdogDue (clock s) s = false →
      exec (.sendRequestAsync f) s = .next { s with out := Outputs.returning (.bool false) } ∧
      exec (.sendResponse f) s = .next { s with out := Outputs.returning (.bool false) })

/-- R169, step 1: in `READY` the transmission starts as for `sendRequestAsync` and the host is blocked (the model's
`sync`, log entry 5); in every other state `SENTINEL` is returned and nothing written. (Basis: the spec's own decision
D31; the blocked host is log entry 5.) -/
def Obligations.SynchronousSendStartsOrReturnsTheSentinel : Prop :=
  ∀ (f : Frame) (s : State),
    (s.status = .ready → exec (.sendRequest f) s = .next
      { s with txFrame := f, txKind := .request, txT0 := s.now % 2 ^ s.cfg.wTime, txIdx := 0,
               status := .requestSending, sync := some { kind := .frame, t0 := s.now % 2 ^ s.cfg.wTime },
               out := Outputs.silent }) ∧
    (s.status ≠ .ready → s.status ≠ .delay → watchdogDue (clock s) s = false →
      exec (.sendRequest f) s = .next { s with out := Outputs.returning (.frame s.cfg.sentinel) })

/-- R169, R182, the finalising step: a poll that finds the receive ended performs `process` and frees the host; it
returns the received frame if `resp_status` is then `SUCCESS`, else `SENTINEL`, and `getBoilerTemperature` the low 16
bits of the frame, read as signed over 256, or 0. (Basis: the spec's own decision D31; the blocked host is log entry
5.) -/
def Obligations.PollsFinaliseAsProcess : Prop :=
  ∀ (kind : SyncKind) (t0 : Nat) (s : State), s.sync = some { kind := kind, t0 := t0 } →
    s.status = .responseReady ∨ s.status = .responseInvalid →
    ∃ t : State, exec .process s = .next t ∧ t.status = .ready ∧
      (kind = .frame → pollSync s = .next
        { t with sync := none,
                 out := { t.out with
                   result := .frame (if t.respStatus = .success then t.lastResponse else s.cfg.sentinel) } }) ∧
      (kind = .temperature → pollSync s = .next
        { t with sync := none,
                 out := { t.out with result := .real <|
                   if t.respStatus = .success then (BitVec.ofNat 16 t.lastResponse.toNat).toInt else 0 } })

/-- R169, R182, the other polls: past `T_SYNC_TIMEOUT` the call ends with `SENTINEL` (for `getBoilerTemperature`, the
temperature of `SENTINEL` or 0 by `resp_status`), nothing is written and the exchange goes on; within it, or with a
bound that never expires, nothing happens. (Basis: the spec's own decision D31; the blocked host is log entry 5.) -/
def Obligations.PollsGiveUpOrWait : Prop :=
  ∀ (kind : SyncKind) (t0 : Nat) (s : State), s.sync = some { kind := kind, t0 := t0 } →
    s.status ≠ .responseReady → s.status ≠ .responseInvalid → s.status ≠ .delay → watchdogDue (clock s) s = false →
    (∀ b, s.cfg.tSyncTimeout = some b → b < elapsed s.cfg (clock s) t0 →
      (kind = .frame →
        pollSync s = .next { s with sync := none, out := Outputs.returning (.frame s.cfg.sentinel) }) ∧
      (kind = .temperature → pollSync s = .next
        { s with sync := none,
                 out := Outputs.returning <| .real <|
                   if s.respStatus = .success then (BitVec.ofNat 16 s.cfg.sentinel.toNat).toInt else 0 })) ∧
    ((∀ b, s.cfg.tSyncTimeout = some b → elapsed s.cfg (clock s) t0 ≤ b) →
      pollSync s = .next { s with out := Outputs.silent })

/-- R166 in `RESPONSE_READY`: `process` checks the parity and then the family of the role, stores the frame and the
status, returns to `READY` and raises the callback if one is registered. (Basis: the spec's own decisions D16, D21,
D22 and D28.) -/
def Obligations.ProcessValidatesACompletedReceive : Prop :=
  ∀ s : State, s.status = .responseReady →
    (popcount s.rxShift % 2 = 0 → (s.rxShift.getLsbD 30 = true ↔ s.cfg.role = .master) →
      exec .process s = .next
        { s with lastResponse := s.rxShift, respStatus := .success, status := .ready,
                 out := { result := .none, callback := if s.cbEn then some (s.rxShift, .success) else none,
                          reports := [] } }) ∧
    (popcount s.rxShift % 2 = 1 →
      exec .process s = .next
        { s with lastResponse := s.rxShift, respStatus := .invalid, status := .ready,
                 out := { result := .none, callback := if s.cbEn then some (s.rxShift, .invalid) else none,
                          reports := [.invalidParity] } }) ∧
    (popcount s.rxShift % 2 = 0 → ¬ (s.rxShift.getLsbD 30 = true ↔ s.cfg.role = .master) →
      exec .process s = .next
        { s with lastResponse := s.rxShift, respStatus := .invalid, status := .ready,
                 out := { result := .none, callback := if s.cbEn then some (s.rxShift, .invalid) else none,
                          reports := [.unknownOrMismatchedMessageType] } })

/-- R166 in `RESPONSE_INVALID` and elsewhere: the cause of the failure is recorded; in a state that no receive has
ended, `process` does nothing. (Basis: the spec's own decisions D21 and D22.) -/
def Obligations.ProcessRecordsAFailureOrDoesNothing : Prop :=
  ∀ s : State,
    (s.status = .responseInvalid → s.pendCause = .timeout →
      exec .process s = .next
        { s with lastResponse := s.rxShift, respStatus := .timeout, status := .ready,
                 out := { result := .none, callback := if s.cbEn then some (s.rxShift, .timeout) else none,
                          reports := [] } }) ∧
    (s.status = .responseInvalid → s.pendCause = .framing →
      exec .process s = .next
        { s with lastResponse := s.rxShift, respStatus := .invalid, status := .ready,
                 out := { result := .none, callback := if s.cbEn then some (s.rxShift, .invalid) else none,
                          reports := [] } }) ∧
    (s.status ≠ .responseReady → s.status ≠ .responseInvalid → s.status ≠ .delay →
      watchdogDue (clock s) s = false → exec .process s = .next { s with out := Outputs.silent })

/-- R50: `process` consumes a receive once: right after a `process`, a second one does nothing. -/
def Obligations.ProcessConsumesAReceiveOnce : Prop :=
  ∀ s t : State, exec .process s = .next t → exec .process t = .next { t with out := Outputs.silent }

/-! ### Transmission -/

/-- R133, R131, R67: half period `k` drives the first or second half of line bit `k div 2`, where line bits 0 and 33
are 1 and line bit `j` between them is frame bit `32 - j`. -/
def Obligations.HalfPeriodsDriveTheBitCells : Prop :=
  ∀ s : State, s.status = .requestSending → s.txIdx.toNat ≤ 67 → ∃ bit : Bool,
    (s.txIdx.toNat / 2 = 0 ∨ s.txIdx.toNat / 2 = 33 → bit = true) ∧
    (1 ≤ s.txIdx.toNat / 2 → s.txIdx.toNat / 2 ≤ 32 → bit = s.txFrame.getLsbD (32 - s.txIdx.toNat / 2)) ∧
    exec .txHalf s = .next
      { s with lineOut := if (s.txIdx.toNat % 2 = 0 ↔ bit = true) then .active else .idle,
               txIdx := BitVec.ofNat 7 (s.txIdx.toNat + 1), out := Outputs.silent }

/-- R134: the completion step leaves the line `IDLE`, starts the bound in `rx_ts` and enters `RESPONSE_WAITING` after
a request, `READY` after a response. (Basis: the spec's own decisions D27 and D30.) -/
def Obligations.CompletionEndsTheTransmission : Prop :=
  ∀ s : State, s.status = .requestSending → s.txIdx = 68 →
    exec .txHalfCompletion s = .next
      { s with lineOut := .idle, txIdx := 0, rxTs := s.now % 2 ^ s.cfg.wTime,
               status := if s.txKind = .request then .responseWaiting else .ready, out := Outputs.silent } ∧
    exec .txHalf s = exec .txHalfCompletion s

/-- R136: in the waveform of every frame the line is `ACTIVE` in 34 of the 68 half periods, changes at every odd half
period, changes at an even one exactly between two equal bits, starts `ACTIVE` and ends `IDLE`. (Basis: R136 is the
spec's own derivation.) -/
def Obligations.WaveformIsBalancedManchester : Prop :=
  ∀ f : Frame,
    (List.range 68).countP (fun k => decide (halfLevel f k = .active)) = 34 ∧
    (∀ j < 34, halfLevel f (2 * j) ≠ halfLevel f (2 * j + 1)) ∧
    (∀ j, 1 ≤ j → j < 34 → (halfLevel f (2 * j - 1) ≠ halfLevel f (2 * j) ↔ lineBit f (j - 1) = lineBit f j)) ∧
    halfLevel f 0 = .active ∧ halfLevel f 67 = .idle

/-- R130, R135: 69 steps of the engine, each at its instant, take a transmission from its start to its end in exactly
`68 * T_HALF` microseconds; the frame, the results and the receive registers but `rx_ts` are as before. (Basis: the
spec's own decisions D9 and D29; `Config.Valid` is log entry 12 (DEDUCED).) -/
def Obligations.TransmissionTakes68HalfPeriods : Prop :=
  ∀ s : State, s.cfg.Valid → s.status = .requestSending → s.txIdx = 0 → s.txT0 = clock s →
    runEngine 69 s = .next
      { s with now := s.now + 68 * s.cfg.tHalf, lineOut := .idle, txIdx := 0,
               rxTs := (s.now + 68 * s.cfg.tHalf) % 2 ^ s.cfg.wTime,
               status := if s.txKind = .request then .responseWaiting else .ready, out := Outputs.silent }

/-! ### Reception -/

/-- R143, R140, R207, R56, R52 (c): an edge while the interrupt is detached, during a transmission, or in a state in
which a receive waits for `process` is dropped; so is every event of another agent in the last two. (Basis: the spec's
own decision D43.) -/
def Obligations.EdgesAreDroppedWhereNothingIsHeard : Prop :=
  ∀ (t : Nat) (lvl : Level) (s : State),
    (s.irqEn = false → s.status ≠ .delay → exec (.edge t lvl) s = .next { s with out := Outputs.silent }) ∧
    (s.status = .requestSending → exec (.edge t lvl) s = .next { s with out := Outputs.silent }) ∧
    (s.status = .responseReady ∨ s.status = .responseInvalid →
      exec (.edge t lvl) s = .next { s with out := Outputs.silent } ∧
      exec .txHalf s = .next { s with out := Outputs.silent } ∧
      exec .txHalfCompletion s = .next { s with out := Outputs.silent } ∧
      exec .wdg s = .next { s with out := Outputs.silent })

/-- R144, R145: a transition to `ACTIVE` starts a receive in a slave's `READY`, any transition does in
`RESPONSE_WAITING`; no other edge in `READY` does anything. (Basis: the spec's own decisions D12 and D28; that an
edge's time is read modulo `2^W_TIME` is log entry 13 (DEDUCED).) -/
def Obligations.FirstEdgeStartsAReceive : Prop :=
  ∀ (t : Nat) (lvl : Level) (s : State), s.irqEn = true →
    (s.status = .ready → s.cfg.role = .slave → lvl = .active →
      exec (.edge t lvl) s = .next { s with status := .responseStartBit, rxTs := t % 2 ^ s.cfg.wTime, out := Outputs.silent }) ∧
    (s.status = .ready → s.cfg.role = .master ∨ lvl = .idle →
      exec (.edge t lvl) s = .next { s with out := Outputs.silent }) ∧
    (s.status = .responseWaiting → elapsed s.cfg t s.rxTs ≤ s.cfg.tTimeout →
      exec (.edge t lvl) s = .next { s with status := .responseStartBit, rxTs := t % 2 ^ s.cfg.wTime, out := Outputs.silent })

/-- R146: the start bit is good when the line goes `IDLE` after a half interval; any other edge ends the receive with
`InvalidFraming`. (Basis: the spec's own decisions D10 and D13; that an edge's time is read modulo `2^W_TIME` is log
entry 13 (DEDUCED).) -/
def Obligations.StartBitIsCheckedAtItsMidBit : Prop :=
  ∀ (t : Nat) (lvl : Level) (s : State), s.irqEn = true → s.status = .responseStartBit →
    elapsed s.cfg t s.rxTs ≤ s.cfg.tTimeout →
    (s.cfg.tShort ≤ elapsed s.cfg t s.rxTs → elapsed s.cfg t s.rxTs < s.cfg.tThresh → lvl = .idle →
      exec (.edge t lvl) s = .next
        { s with status := .responseReceiving, bitIdx := 0, rxShift := 0, rxTs := t % 2 ^ s.cfg.wTime, out := Outputs.silent }) ∧
    (elapsed s.cfg t s.rxTs < s.cfg.tShort ∨ s.cfg.tThresh ≤ elapsed s.cfg t s.rxTs ∨ lvl = .active →
      exec (.edge t lvl) s = .next
        { s with status := .responseInvalid, pendCause := .framing, rxTs := t % 2 ^ s.cfg.wTime,
                 out := Outputs.reporting .invalidFraming })

/-- R147, R142, R148: in `RESPONSE_RECEIVING` a half interval is ignored, a short or a long one ends the receive with
`InvalidFraming`, and a full one samples a bit, 1 for `IDLE`: one of 32 data bits, shifted in at the low end, or the
stop bit, which must be 1. (Basis: the spec's own decisions D10, D11, D14, D15 and D16; that an edge's time is read
modulo `2^W_TIME` is log entry 13 (DEDUCED); `Config.Valid` is log entry 12 (DEDUCED).) -/
def Obligations.ReceivingSamplesOnFullIntervals : Prop :=
  ∀ (t : Nat) (lvl : Level) (s : State), s.cfg.Valid → s.irqEn = true → s.status = .responseReceiving →
    elapsed s.cfg t s.rxTs ≤ s.cfg.tTimeout →
    (s.cfg.tShort ≤ elapsed s.cfg t s.rxTs → elapsed s.cfg t s.rxTs < s.cfg.tThresh →
      exec (.edge t lvl) s = .next { s with out := Outputs.silent }) ∧
    (elapsed s.cfg t s.rxTs < s.cfg.tShort ∨ s.cfg.tLong ≤ elapsed s.cfg t s.rxTs →
      exec (.edge t lvl) s = .next
        { s with status := .responseInvalid, pendCause := .framing, rxTs := t % 2 ^ s.cfg.wTime,
                 out := Outputs.reporting .invalidFraming }) ∧
    (s.cfg.tThresh ≤ elapsed s.cfg t s.rxTs → elapsed s.cfg t s.rxTs < s.cfg.tLong → s.bitIdx.toNat < 32 →
      exec (.edge t lvl) s = .next
        { s with rxShift := BitVec.ofNat 32 (2 * s.rxShift.toNat + if lvl = .idle then 1 else 0),
                 bitIdx := BitVec.ofNat 6 (s.bitIdx.toNat + 1), rxTs := t % 2 ^ s.cfg.wTime, out := Outputs.silent }) ∧
    (s.cfg.tThresh ≤ elapsed s.cfg t s.rxTs → elapsed s.cfg t s.rxTs < s.cfg.tLong → s.bitIdx = 32 → lvl = .idle →
      exec (.edge t lvl) s = .next { s with status := .responseReady, rxTs := t % 2 ^ s.cfg.wTime, out := Outputs.silent }) ∧
    (s.cfg.tThresh ≤ elapsed s.cfg t s.rxTs → elapsed s.cfg t s.rxTs < s.cfg.tLong → s.bitIdx = 32 → lvl = .active →
      exec (.edge t lvl) s = .next
        { s with status := .responseInvalid, pendCause := .framing, rxTs := t % 2 ^ s.cfg.wTime,
                 out := Outputs.reporting .invalidFraming })

/-- R149: `WDG` ends a receive whose reference edge lies more than `T_TIMEOUT` back, in the three watched states; it
is not enabled in any other state or within the bound. (Basis: the spec's own decisions D17, D18 and D19; that a `WDG`
given late writes the clock is the model's reading, log entry 10 (DEDUCED), and that one that is not enabled leaves
every element as it is, log entry 8 (DEDUCED).) -/
def Obligations.WatchdogEndsAStalledReceive : Prop :=
  ∀ s : State,
    (s.status = .responseWaiting ∨ s.status = .responseStartBit ∨ s.status = .responseReceiving →
      s.cfg.tTimeout < elapsed s.cfg (clock s) s.rxTs →
      exec .wdg s = .next { s with status := .responseInvalid, pendCause := .timeout, rxTs := clock s,
                                   out := Outputs.reporting .timeout }) ∧
    (s.status ≠ .delay → watched s.status = false ∨ elapsed s.cfg (clock s) s.rxTs ≤ s.cfg.tTimeout →
      exec .wdg s = .next { s with out := Outputs.silent })

/-- R150: a line frame whose half periods all last `h` µs, with `T_SHORT <= h < T_THRESH` and `T_THRESH <= 2h <
T_LONG`, is received whole by a master in `RESPONSE_WAITING` within the bound and by a slave in `READY`: the frame
stands in `rx_shift` and the core is `RESPONSE_READY`. (Basis: R150 is the spec's own derivation, the order of bits
its decision D8; that an edge's time is read modulo `2^W_TIME` is log entry 13 (DEDUCED); `Config.Valid` is log entry
12 (DEDUCED).) -/
def Obligations.CleanLineFramesAreReceived : Prop :=
  ∀ (f : Frame) (t0 : Nat) (h : Nat) (s : State), s.cfg.Valid → s.irqEn = true →
    s.cfg.tShort ≤ h → h < s.cfg.tThresh → s.cfg.tThresh ≤ 2 * h → 2 * h < s.cfg.tLong →
    (s.status = .responseWaiting ∧ elapsed s.cfg t0 s.rxTs ≤ s.cfg.tTimeout) ∨
      (s.status = .ready ∧ s.cfg.role = .slave) →
    runEdges (lineEdges f t0 h 34) s = .next
      { s with status := .responseReady, rxShift := f, bitIdx := 32, rxTs := (t0 + 67 * h) % 2 ^ s.cfg.wTime,
               out := Outputs.silent }

/-! ### Accessors -/

/-- R180: the frame built from five flags is the `WRITE_DATA` frame of ID `Status` with the flags in `DATA[12:8]` and
even parity, a valid request for all 32 operands. (Basis: the flag places are the spec's own decisions D36 and D37.)
-/
def Obligations.StatusRequestCarriesTheFlags : Prop :=
  ∀ (ch dhw cool otc ch2 : Bool) (s : State), ∃ f : Frame,
    exec (.buildSetBoilerStatusRequest ch dhw cool otc ch2) s =
      .next { s with out := Outputs.returning (.frame f) } ∧
    f.toNat % 2 ^ 31 = 0x10000000 + 0x10000 * s.cfg.idStatus.toNat + 0x100 * ch.toNat + 0x200 * dhw.toNat +
      0x400 * cool.toNat + 0x800 * otc.toNat + 0x1000 * ch2.toNat ∧
    popcount f % 2 = 0 ∧
    exec (.isValidRequest f) s = .next { s with out := Outputs.returning (.bool true) }

/-- R181, R182, the first step: in `READY`, `setBoilerStatus` starts the transmission of the frame that
`buildSetBoilerStatusRequest` returns, as `sendRequest` of it does, and `getBoilerTemperature` that of the frame that
`buildRequest(READ_DATA, ID_TBOILER, 0)` returns; the host is blocked (the model's `sync`, log entry 5). (Basis: the
spec's own decisions D38, D39 and D47; the blocked host is log entry 5.) -/
def Obligations.SendingAccessorsStartTheirRequest : Prop :=
  ∀ (ch dhw cool otc ch2 : Bool) (s : State), s.status = .ready → ∃ f g : Frame,
    exec (.buildSetBoilerStatusRequest ch dhw cool otc ch2) s =
      .next { s with out := Outputs.returning (.frame f) } ∧
    exec (.buildRequest 0 s.cfg.idTboiler.toNat 0) s = .next { s with out := Outputs.returning (.frame g) } ∧
    exec (.setBoilerStatus ch dhw cool otc ch2) s = .next
      { s with txFrame := f, txKind := .request, txT0 := s.now % 2 ^ s.cfg.wTime, txIdx := 0,
               status := .requestSending, sync := some { kind := .frame, t0 := s.now % 2 ^ s.cfg.wTime },
               out := Outputs.silent } ∧
    exec (.setBoilerStatus ch dhw cool otc ch2) s = exec (.sendRequest f) s ∧
    exec .getBoilerTemperature s = .next
      { s with txFrame := g, txKind := .request, txT0 := s.now % 2 ^ s.cfg.wTime, txIdx := 0,
               status := .requestSending, sync := some { kind := .temperature, t0 := s.now % 2 ^ s.cfg.wTime },
               out := Outputs.silent }

/-- R181, R182, R169: in every state but `READY` the sending accessors write nothing; `setBoilerStatus` returns
`SENTINEL`, `getBoilerTemperature` the temperature of `SENTINEL` or 0 by `resp_status`, which is 0 for the default
`SENTINEL`. (Basis: the spec's own decisions D31 and D39.) -/
def Obligations.SendingAccessorsAreRejectedElsewhere : Prop :=
  ∀ (ch dhw cool otc ch2 : Bool) (s : State), s.status ≠ .ready → s.status ≠ .delay →
    watchdogDue (clock s) s = false →
    exec (.setBoilerStatus ch dhw cool otc ch2) s =
      .next { s with out := Outputs.returning (.frame s.cfg.sentinel) } ∧
    exec .getBoilerTemperature s = .next
      { s with out := Outputs.returning <| .real <|
                 if s.respStatus = .success then (BitVec.ofNat 16 s.cfg.sentinel.toNat).toInt else 0 } ∧
    (s.cfg.sentinel = 0 → exec .getBoilerTemperature s = .next { s with out := Outputs.returning (.real 0) })
end

