-- ==== Sys2Proof/Laws/Decode.lean ====
section
/-!
SUPPORT. The lanes of a word: bytes and the number they hold, one into the other and back; the fields of a frame
word.
-/

namespace Sys2Proof

@[simp] theorem leBytes_length (k n : Nat) : (leBytes k n).length = k := by
  induction k generalizing n with
  | zero => rfl
  | succ k ih => simp [leBytes, ih]

/-- The bytes of a number hold it modulo the lane's size. -/
theorem leNat_leBytes (k n : Nat) : leNat (leBytes k n) = n % 256 ^ k := by
  induction k generalizing n with
  | zero => simp [leBytes, leNat, Nat.mod_one]
  | succ k ih =>
    have h : n % 256 ^ (k + 1) = n % 256 + 256 * (n / 256 % 256 ^ k) := by
      rw [Nat.pow_succ, Nat.mul_comm (256 ^ k) 256, Nat.mod_mul]
    simp [leBytes, leNat, ih, h]

/-- A number that fits its lane is the number its bytes hold. -/
theorem leNat_leBytes_of_lt (k n : Nat) (h : n < 256 ^ k) : leNat (leBytes k n) = n := by
  rw [leNat_leBytes, Nat.mod_eq_of_lt h]

theorem leNat_lt (bs : List Byte) : leNat bs < 256 ^ bs.length := by
  induction bs with
  | nil => simp [leNat]
  | cons b bs ih =>
    have hb := b.isLt
    simp only [leNat, List.length_cons, Nat.pow_succ]
    omega

/-- Bytes are the bytes of the number they hold. -/
theorem leBytes_leNat (bs : List Byte) : leBytes bs.length (leNat bs) = bs := by
  induction bs with
  | nil => rfl
  | cons b bs ih =>
    have hb := b.isLt
    have h1 : BitVec.ofNat 8 (b.toNat + 256 * leNat bs) = b := by
      apply BitVec.eq_of_toNat_eq
      simp only [BitVec.toNat_ofNat]
      omega
    have h2 : (b.toNat + 256 * leNat bs) / 256 = leNat bs := by omega
    simp only [leNat, List.length_cons, leBytes, h1, h2, ih]

/-- A selector byte keeps its number. -/
theorem toNat_selector (sel : Nat) (h : sel < 256) : (BitVec.ofNat 8 sel).toNat = sel := by
  simp [Nat.mod_eq_of_lt h]

/-- A command word of the right length decodes to its operation on the number its operand bytes hold. -/
theorem decodeCmd_cmd (sel k w : Nat) (hs : sel < 32) (hk : operandShape sel = some (.bytes k)) (hw : w < 256 ^ k) :
    decodeCmd (BitVec.ofNat 8 sel :: leBytes k w) = decodeOperation sel w := by
  have h := toNat_selector sel (by omega)
  have h' : ¬ 32 ≤ sel := by omega
  simp only [decodeCmd, h, h', if_false, hk, leBytes_length, if_true, leNat_leBytes_of_lt k w hw]

/-- A command word has the form the decoder asks for. -/
theorem cmd_shape (sel k w : Nat) (hs : sel < 32) (hk : operandShape sel = some (.bytes k)) :
    ∃ b rest k', (BitVec.ofNat 8 sel :: leBytes k w) = b :: rest ∧ b.toNat < 32 ∧
      operandShape b.toNat = some (.bytes k') ∧ rest.length = k' :=
  ⟨_, _, k, rfl, by rw [toNat_selector sel (by omega)]; exact hs,
    by rw [toNat_selector sel (by omega)]; exact hk, leBytes_length k w⟩

/-! ### The fields of a frame word -/

/-- Two fields put side by side are the sum of their weights. -/
theorem shiftLeft_or_eq_add (a b n : Nat) (h : b < 2 ^ n) : (a <<< n) ||| b = 2 ^ n * a + b := by
  rw [← Nat.shiftLeft_add_eq_or_of_lt h, Nat.shiftLeft_eq, Nat.mul_comm]

/-- A frame word is the number its fields weigh (R60). -/
theorem packFrame_toNat (p : Bool) (ty : BitVec 3) (spare : BitVec 4) (id : BitVec 8) (data : BitVec 16) :
    (packFrame p ty spare id data).toNat =
      2 ^ 16 * (2 ^ 8 * (2 ^ 4 * (2 ^ 3 * p.toNat + ty.toNat) + spare.toNat) + id.toNat) + data.toNat := by
  unfold packFrame
  rw [BitVec.toNat_append, BitVec.toNat_append, BitVec.toNat_append, BitVec.toNat_append,
    shiftLeft_or_eq_add _ _ _ data.isLt, shiftLeft_or_eq_add _ _ _ id.isLt, shiftLeft_or_eq_add _ _ _ spare.isLt,
    shiftLeft_or_eq_add _ _ _ ty.isLt, BitVec.toNat_ofBool]

/-- The fields a frame word was packed from are read back. -/
theorem packFrame_fields (p : Bool) (ty : BitVec 3) (spare : BitVec 4) (id : BitVec 8) (data : BitVec 16) :
    (packFrame p ty spare id data).getLsbD 31 = p ∧ (packFrame p ty spare id data).extractLsb' 28 3 = ty ∧
    (packFrame p ty spare id data).extractLsb' 24 4 = spare ∧ (packFrame p ty spare id data).extractLsb' 16 8 = id ∧
    (packFrame p ty spare id data).extractLsb' 0 16 = data := by
  have h := packFrame_toNat p ty spare id data
  have h1 := ty.isLt
  have h2 := spare.isLt
  have h3 := id.isLt
  have h4 := data.isLt
  have h5 := p.toNat_lt
  refine ⟨?_, ?_, ?_, ?_, ?_⟩
  · rw [BitVec.getLsbD, Nat.testBit_eq_decide_div_mod_eq, h]
    cases p <;> simp <;> omega
  all_goals
    apply BitVec.eq_of_toNat_eq
    rw [BitVec.extractLsb'_toNat, h, Nat.shiftRight_eq_div_pow]
    omega

/-- A frame is packed from its own fields. -/
theorem packFrame_eta (f : Frame) :
    packFrame (f.getLsbD 31) (f.extractLsb' 28 3) (f.extractLsb' 24 4) (f.extractLsb' 16 8) (f.extractLsb' 0 16) =
      f := by
  apply BitVec.eq_of_toNat_eq
  rw [packFrame_toNat]
  have hf := f.isLt
  have hb : (f.getLsbD 31).toNat = f.toNat / 2 ^ 31 := by
    rw [BitVec.getLsbD, Nat.testBit_eq_decide_div_mod_eq]
    by_cases h : f.toNat / 2 ^ 31 % 2 = 1 <;>
      simp only [h, decide_true, decide_false, Bool.toNat_true, Bool.toNat_false] <;> omega
  rw [hb]
  simp only [BitVec.extractLsb'_toNat, Nat.shiftRight_eq_div_pow]
  omega

end Sys2Proof
end

