-- ==== Sys2Proof/Laws/Time.lean ====
section
/-!
SUPPORT. Arithmetic modulo `2^W_TIME` (R43, R117 (f)): what `wrapTime` and `elapsed` give, for any width of the clock.
-/

namespace Sys2Proof.Machine

theorem wrapTime_lt (c : Config) (t : Nat) : wrapTime c t < 2 ^ c.wTime := Nat.mod_lt _ (Nat.two_pow_pos _)

theorem wrapTime_of_lt (c : Config) (t : Nat) (h : t < 2 ^ c.wTime) : wrapTime c t = t := Nat.mod_eq_of_lt h

@[simp] theorem wrapTime_wrapTime (c : Config) (t : Nat) : wrapTime c (wrapTime c t) = wrapTime c t :=
  Nat.mod_mod _ _

@[simp] theorem wrapTime_add_left (c : Config) (t d : Nat) : wrapTime c (wrapTime c t + d) = wrapTime c (t + d) :=
  Nat.mod_add_mod _ _ _

@[simp] theorem wrapTime_add_right (c : Config) (t d : Nat) : wrapTime c (t + wrapTime c d) = wrapTime c (t + d) :=
  Nat.add_mod_mod _ _ _

@[simp] theorem elapsed_wrapTime_left (c : Config) (t ts : Nat) : elapsed c (wrapTime c t) ts = elapsed c t ts := by
  simp [elapsed]

@[simp] theorem elapsed_wrapTime_right (c : Config) (t ts : Nat) : elapsed c t (wrapTime c ts) = elapsed c t ts := by
  simp [elapsed]

theorem elapsed_lt (c : Config) (t ts : Nat) : elapsed c t ts < 2 ^ c.wTime := wrapTime_lt c _

/-- `elapsed` is a distance: the later time is the earlier one and the distance. -/
theorem wrapTime_add_elapsed (c : Config) (t ts : Nat) : wrapTime c (ts + elapsed c t ts) = wrapTime c t := by
  have h := wrapTime_lt c ts
  have e : wrapTime c ts + (wrapTime c t + (2 ^ c.wTime - wrapTime c ts)) = wrapTime c t + 2 ^ c.wTime := by omega
  rw [elapsed, wrapTime_add_right, ← wrapTime_add_left, e]
  simp [wrapTime]

/-- `elapsed` is the one distance below the clock's turn. -/
theorem elapsed_unique (c : Config) (t ts d : Nat) (hd : d < 2 ^ c.wTime) (h : wrapTime c (ts + d) = wrapTime c t) :
    elapsed c t ts = d := by
  have h' : (ts + elapsed c t ts) % 2 ^ c.wTime = (ts + d) % 2 ^ c.wTime := (wrapTime_add_elapsed c t ts).trans h.symm
  have := Nat.ModEq.add_left_cancel' ts h'
  rwa [Nat.ModEq, Nat.mod_eq_of_lt (elapsed_lt c t ts), Nat.mod_eq_of_lt hd] at this

/-- Time that has passed since the reference is told as long as it is below the clock's turn (R43). -/
theorem elapsed_add_left (c : Config) (ts d : Nat) (hd : d < 2 ^ c.wTime) : elapsed c (ts + d) ts = d :=
  elapsed_unique c _ ts d hd rfl

@[simp] theorem elapsed_self (c : Config) (t : Nat) : elapsed c t t = 0 :=
  elapsed_add_left c t 0 (Nat.two_pow_pos _)

/-- More time on the clock is more time elapsed, below the clock's turn. -/
theorem elapsed_add (c : Config) (t ts d : Nat) (h : elapsed c t ts + d < 2 ^ c.wTime) :
    elapsed c (t + d) ts = elapsed c t ts + d := by
  apply elapsed_unique c _ ts _ h
  rw [← Nat.add_assoc, ← wrapTime_add_left, wrapTime_add_elapsed, wrapTime_add_left]

/-- The way to an instant that lies ahead gets shorter as the clock runs towards it. -/
theorem elapsed_sub (c : Config) (due t d : Nat) (h : d ≤ elapsed c due t) :
    elapsed c due (t + d) = elapsed c due t - d := by
  apply elapsed_unique c _ _ _ (Nat.lt_of_le_of_lt (Nat.sub_le _ _) (elapsed_lt c due t))
  rw [show t + d + (elapsed c due t - d) = t + elapsed c due t by omega, wrapTime_add_elapsed]

/-- With valid parameters the watchdog's bound is passed long before the clock has turned (R235). -/
theorem two_mul_tTimeout_lt (c : Config) (h : c.Valid) : 2 * c.tTimeout + 1 < 2 ^ c.wTime := by
  obtain ⟨-, -, h3, h4, h5, h6, -⟩ := h
  cases hw : c.wTime with
  | zero => simp [hw] at h6; omega
  | succ n => simp only [hw, Nat.add_sub_cancel] at h6; rw [Nat.pow_succ]; omega

/-- With valid parameters half the clock's turn is longer than the watchdog's bound, and twice it is the turn. -/
theorem half_turn (c : Config) (h : c.Valid) : c.tTimeout < 2 ^ (c.wTime - 1) ∧ 2 * 2 ^ (c.wTime - 1) = 2 ^ c.wTime := by
  have hw := two_mul_tTimeout_lt c h
  refine ⟨h.2.2.2.2.2.1, ?_⟩
  cases hc : c.wTime with
  | zero => simp [hc] at hw
  | succ n => rw [Nat.pow_succ, Nat.add_sub_cancel, Nat.mul_comm]

end Sys2Proof.Machine
end

