-- ==== Sys2Proof/Laws/State.lean ====
section
/-!
SUPPORT. The two parameters that have one value; what each state operation does to each field: one lemma per field per
operation, true by `rfl`; then the two operations that ask a question first (`emitCallback`, `deliver`).
-/

namespace Sys2Proof.Machine

/-! ### The parameters the source fixes -/

@[simp] theorem frameBits_val (c : Config) : c.frameBits.val = 32 := c.frameBits.property
@[simp] theorem lineBits_val (c : Config) : c.lineBits.val = 34 := c.lineBits.property
@[simp] theorem completionIndex_eq (c : Config) : c.completionIndex = 68 := by simp [Config.completionIndex]

/-! ### `quiet` -/

@[simp] theorem quiet_status (s : State) : (quiet s).status = s.status := rfl
@[simp] theorem quiet_respStatus (s : State) : (quiet s).respStatus = s.respStatus := rfl
@[simp] theorem quiet_lastResponse (s : State) : (quiet s).lastResponse = s.lastResponse := rfl
@[simp] theorem quiet_rxShift (s : State) : (quiet s).rxShift = s.rxShift := rfl
@[simp] theorem quiet_bitIdx (s : State) : (quiet s).bitIdx = s.bitIdx := rfl
@[simp] theorem quiet_rxTs (s : State) : (quiet s).rxTs = s.rxTs := rfl
@[simp] theorem quiet_pendCause (s : State) : (quiet s).pendCause = s.pendCause := rfl
@[simp] theorem quiet_txFrame (s : State) : (quiet s).txFrame = s.txFrame := rfl
@[simp] theorem quiet_txIdx (s : State) : (quiet s).txIdx = s.txIdx := rfl
@[simp] theorem quiet_txKind (s : State) : (quiet s).txKind = s.txKind := rfl
@[simp] theorem quiet_txT0 (s : State) : (quiet s).txT0 = s.txT0 := rfl
@[simp] theorem quiet_lineOut (s : State) : (quiet s).lineOut = s.lineOut := rfl
@[simp] theorem quiet_irqEn (s : State) : (quiet s).irqEn = s.irqEn := rfl
@[simp] theorem quiet_cbEn (s : State) : (quiet s).cbEn = s.cbEn := rfl
@[simp] theorem quiet_cfg (s : State) : (quiet s).cfg = s.cfg := rfl
@[simp] theorem quiet_now (s : State) : (quiet s).now = s.now := rfl
@[simp] theorem quiet_line (s : State) : (quiet s).line = s.line := rfl
@[simp] theorem quiet_host (s : State) : (quiet s).host = s.host := rfl
@[simp] theorem quiet_polls (s : State) : (quiet s).polls = s.polls := rfl
@[simp] theorem quiet_sync (s : State) : (quiet s).sync = s.sync := rfl
@[simp] theorem quiet_out (s : State) : (quiet s).out = Outputs.silent := rfl

/-! ### `giveResult` -/

@[simp] theorem giveResult_status (r : Result) (s : State) : (giveResult r s).status = s.status := rfl
@[simp] theorem giveResult_respStatus (r : Result) (s : State) : (giveResult r s).respStatus = s.respStatus := rfl
@[simp] theorem giveResult_lastResponse (r : Result) (s : State) :
    (giveResult r s).lastResponse = s.lastResponse := rfl
@[simp] theorem giveResult_rxShift (r : Result) (s : State) : (giveResult r s).rxShift = s.rxShift := rfl
@[simp] theorem giveResult_bitIdx (r : Result) (s : State) : (giveResult r s).bitIdx = s.bitIdx := rfl
@[simp] theorem giveResult_rxTs (r : Result) (s : State) : (giveResult r s).rxTs = s.rxTs := rfl
@[simp] theorem giveResult_pendCause (r : Result) (s : State) : (giveResult r s).pendCause = s.pendCause := rfl
@[simp] theorem giveResult_txFrame (r : Result) (s : State) : (giveResult r s).txFrame = s.txFrame := rfl
@[simp] theorem giveResult_txIdx (r : Result) (s : State) : (giveResult r s).txIdx = s.txIdx := rfl
@[simp] theorem giveResult_txKind (r : Result) (s : State) : (giveResult r s).txKind = s.txKind := rfl
@[simp] theorem giveResult_txT0 (r : Result) (s : State) : (giveResult r s).txT0 = s.txT0 := rfl
@[simp] theorem giveResult_lineOut (r : Result) (s : State) : (giveResult r s).lineOut = s.lineOut := rfl
@[simp] theorem giveResult_irqEn (r : Result) (s : State) : (giveResult r s).irqEn = s.irqEn := rfl
@[simp] theorem giveResult_cbEn (r : Result) (s : State) : (giveResult r s).cbEn = s.cbEn := rfl
@[simp] theorem giveResult_cfg (r : Result) (s : State) : (giveResult r s).cfg = s.cfg := rfl
@[simp] theorem giveResult_now (r : Result) (s : State) : (giveResult r s).now = s.now := rfl
@[simp] theorem giveResult_line (r : Result) (s : State) : (giveResult r s).line = s.line := rfl
@[simp] theorem giveResult_host (r : Result) (s : State) : (giveResult r s).host = s.host := rfl
@[simp] theorem giveResult_polls (r : Result) (s : State) : (giveResult r s).polls = s.polls := rfl
@[simp] theorem giveResult_sync (r : Result) (s : State) : (giveResult r s).sync = s.sync := rfl
@[simp] theorem giveResult_out (r : Result) (s : State) : (giveResult r s).out = { s.out with result := r } := rfl

/-! ### `report` -/

@[simp] theorem report_status (k : ErrorKind) (s : State) : (report k s).status = s.status := rfl
@[simp] theorem report_respStatus (k : ErrorKind) (s : State) : (report k s).respStatus = s.respStatus := rfl
@[simp] theorem report_lastResponse (k : ErrorKind) (s : State) : (report k s).lastResponse = s.lastResponse := rfl
@[simp] theorem report_rxShift (k : ErrorKind) (s : State) : (report k s).rxShift = s.rxShift := rfl
@[simp] theorem report_bitIdx (k : ErrorKind) (s : State) : (report k s).bitIdx = s.bitIdx := rfl
@[simp] theorem report_rxTs (k : ErrorKind) (s : State) : (report k s).rxTs = s.rxTs := rfl
@[simp] theorem report_pendCause (k : ErrorKind) (s : State) : (report k s).pendCause = s.pendCause := rfl
@[simp] theorem report_txFrame (k : ErrorKind) (s : State) : (report k s).txFrame = s.txFrame := rfl
@[simp] theorem report_txIdx (k : ErrorKind) (s : State) : (report k s).txIdx = s.txIdx := rfl
@[simp] theorem report_txKind (k : ErrorKind) (s : State) : (report k s).txKind = s.txKind := rfl
@[simp] theorem report_txT0 (k : ErrorKind) (s : State) : (report k s).txT0 = s.txT0 := rfl
@[simp] theorem report_lineOut (k : ErrorKind) (s : State) : (report k s).lineOut = s.lineOut := rfl
@[simp] theorem report_irqEn (k : ErrorKind) (s : State) : (report k s).irqEn = s.irqEn := rfl
@[simp] theorem report_cbEn (k : ErrorKind) (s : State) : (report k s).cbEn = s.cbEn := rfl
@[simp] theorem report_cfg (k : ErrorKind) (s : State) : (report k s).cfg = s.cfg := rfl
@[simp] theorem report_now (k : ErrorKind) (s : State) : (report k s).now = s.now := rfl
@[simp] theorem report_line (k : ErrorKind) (s : State) : (report k s).line = s.line := rfl
@[simp] theorem report_host (k : ErrorKind) (s : State) : (report k s).host = s.host := rfl
@[simp] theorem report_polls (k : ErrorKind) (s : State) : (report k s).polls = s.polls := rfl
@[simp] theorem report_sync (k : ErrorKind) (s : State) : (report k s).sync = s.sync := rfl
@[simp] theorem report_out (k : ErrorKind) (s : State) :
    (report k s).out = { s.out with reports := s.out.reports ++ [k] } := rfl

/-! ### The output pin -/

theorem pinDriven_iff (pol : Polarity) (lvl : Level) :
    pinDriven pol lvl = true ↔ (lvl = .active ↔ pol = .activeHigh) := by
  cases pol <;> cases lvl <;> simp [pinDriven]

@[simp] theorem pinDriven_idle (pol : Polarity) : pinDriven pol .idle = decide (pol = .activeLow) := by
  cases pol <;> rfl

/-- The pin depends on the line and the polarity only (R42). -/
theorem outputPin_congr {s t : State} (hc : t.cfg = s.cfg) (hl : t.lineOut = s.lineOut) :
    outputPin t = outputPin s := by
  rw [outputPin, outputPin, hc, hl]

@[simp] theorem outputPin_lineWrite (lvl : Level) (s : State) :
    outputPin (lineWrite lvl s) = pinDriven s.cfg.polOut lvl := rfl

/-! ### `lineWrite` -/

@[simp] theorem lineWrite_status (lvl : Level) (s : State) : (lineWrite lvl s).status = s.status := rfl
@[simp] theorem lineWrite_respStatus (lvl : Level) (s : State) : (lineWrite lvl s).respStatus = s.respStatus := rfl
@[simp] theorem lineWrite_lastResponse (lvl : Level) (s : State) :
    (lineWrite lvl s).lastResponse = s.lastResponse := rfl
@[simp] theorem lineWrite_rxShift (lvl : Level) (s : State) : (lineWrite lvl s).rxShift = s.rxShift := rfl
@[simp] theorem lineWrite_bitIdx (lvl : Level) (s : State) : (lineWrite lvl s).bitIdx = s.bitIdx := rfl
@[simp] theorem lineWrite_rxTs (lvl : Level) (s : State) : (lineWrite lvl s).rxTs = s.rxTs := rfl
@[simp] theorem lineWrite_pendCause (lvl : Level) (s : State) : (lineWrite lvl s).pendCause = s.pendCause := rfl
@[simp] theorem lineWrite_txFrame (lvl : Level) (s : State) : (lineWrite lvl s).txFrame = s.txFrame := rfl
@[simp] theorem lineWrite_txIdx (lvl : Level) (s : State) : (lineWrite lvl s).txIdx = s.txIdx := rfl
@[simp] theorem lineWrite_txKind (lvl : Level) (s : State) : (lineWrite lvl s).txKind = s.txKind := rfl
@[simp] theorem lineWrite_txT0 (lvl : Level) (s : State) : (lineWrite lvl s).txT0 = s.txT0 := rfl
@[simp] theorem lineWrite_lineOut (lvl : Level) (s : State) : (lineWrite lvl s).lineOut = lvl := rfl
@[simp] theorem lineWrite_irqEn (lvl : Level) (s : State) : (lineWrite lvl s).irqEn = s.irqEn := rfl
@[simp] theorem lineWrite_cbEn (lvl : Level) (s : State) : (lineWrite lvl s).cbEn = s.cbEn := rfl
@[simp] theorem lineWrite_cfg (lvl : Level) (s : State) : (lineWrite lvl s).cfg = s.cfg := rfl
@[simp] theorem lineWrite_now (lvl : Level) (s : State) : (lineWrite lvl s).now = s.now := rfl
@[simp] theorem lineWrite_line (lvl : Level) (s : State) : (lineWrite lvl s).line = s.line := rfl
@[simp] theorem lineWrite_host (lvl : Level) (s : State) : (lineWrite lvl s).host = s.host := rfl
@[simp] theorem lineWrite_polls (lvl : Level) (s : State) : (lineWrite lvl s).polls = s.polls := rfl
@[simp] theorem lineWrite_sync (lvl : Level) (s : State) : (lineWrite lvl s).sync = s.sync := rfl
@[simp] theorem lineWrite_out (lvl : Level) (s : State) : (lineWrite lvl s).out = s.out := rfl

/-! ### `takeError` -/

@[simp] theorem takeError_status (cause : PendCause) (t : Nat) (s : State) :
    (takeError cause t s).status = .responseInvalid := rfl
@[simp] theorem takeError_respStatus (cause : PendCause) (t : Nat) (s : State) :
    (takeError cause t s).respStatus = s.respStatus := rfl
@[simp] theorem takeError_lastResponse (cause : PendCause) (t : Nat) (s : State) :
    (takeError cause t s).lastResponse = s.lastResponse := rfl
@[simp] theorem takeError_rxShift (cause : PendCause) (t : Nat) (s : State) :
    (takeError cause t s).rxShift = s.rxShift := rfl
@[simp] theorem takeError_bitIdx (cause : PendCause) (t : Nat) (s : State) :
    (takeError cause t s).bitIdx = s.bitIdx := rfl
@[simp] theorem takeError_rxTs (cause : PendCause) (t : Nat) (s : State) : (takeError cause t s).rxTs = t := rfl
@[simp] theorem takeError_pendCause (cause : PendCause) (t : Nat) (s : State) :
    (takeError cause t s).pendCause = cause := rfl
@[simp] theorem takeError_txFrame (cause : PendCause) (t : Nat) (s : State) :
    (takeError cause t s).txFrame = s.txFrame := rfl
@[simp] theorem takeError_txIdx (cause : PendCause) (t : Nat) (s : State) :
    (takeError cause t s).txIdx = s.txIdx := rfl
@[simp] theorem takeError_txKind (cause : PendCause) (t : Nat) (s : State) :
    (takeError cause t s).txKind = s.txKind := rfl
@[simp] theorem takeError_txT0 (cause : PendCause) (t : Nat) (s : State) : (takeError cause t s).txT0 = s.txT0 := rfl
@[simp] theorem takeError_lineOut (cause : PendCause) (t : Nat) (s : State) :
    (takeError cause t s).lineOut = s.lineOut := rfl
@[simp] theorem takeError_irqEn (cause : PendCause) (t : Nat) (s : State) :
    (takeError cause t s).irqEn = s.irqEn := rfl
@[simp] theorem takeError_cbEn (cause : PendCause) (t : Nat) (s : State) : (takeError cause t s).cbEn = s.cbEn := rfl
@[simp] theorem takeError_cfg (cause : PendCause) (t : Nat) (s : State) : (takeError cause t s).cfg = s.cfg := rfl
@[simp] theorem takeError_now (cause : PendCause) (t : Nat) (s : State) : (takeError cause t s).now = s.now := rfl
@[simp] theorem takeError_line (cause : PendCause) (t : Nat) (s : State) : (takeError cause t s).line = s.line := rfl
@[simp] theorem takeError_host (cause : PendCause) (t : Nat) (s : State) : (takeError cause t s).host = s.host := rfl
@[simp] theorem takeError_polls (cause : PendCause) (t : Nat) (s : State) : (takeError cause t s).polls = s.polls := rfl
@[simp] theorem takeError_sync (cause : PendCause) (t : Nat) (s : State) : (takeError cause t s).sync = s.sync := rfl
@[simp] theorem takeError_out (cause : PendCause) (t : Nat) (s : State) :
    (takeError cause t s).out = { s.out with reports := s.out.reports ++ [errorOfCause cause] } := rfl

/-! ### `txStart` -/

@[simp] theorem txStart_status (f : Frame) (kind : TxKind) (t : Nat) (s : State) :
    (txStart f kind t s).status = .requestSending := rfl
@[simp] theorem txStart_respStatus (f : Frame) (kind : TxKind) (t : Nat) (s : State) :
    (txStart f kind t s).respStatus = s.respStatus := rfl
@[simp] theorem txStart_lastResponse (f : Frame) (kind : TxKind) (t : Nat) (s : State) :
    (txStart f kind t s).lastResponse = s.lastResponse := rfl
@[simp] theorem txStart_rxShift (f : Frame) (kind : TxKind) (t : Nat) (s : State) :
    (txStart f kind t s).rxShift = s.rxShift := rfl
@[simp] theorem txStart_bitIdx (f : Frame) (kind : TxKind) (t : Nat) (s : State) :
    (txStart f kind t s).bitIdx = s.bitIdx := rfl
@[simp] theorem txStart_rxTs (f : Frame) (kind : TxKind) (t : Nat) (s : State) :
    (txStart f kind t s).rxTs = s.rxTs := rfl
@[simp] theorem txStart_pendCause (f : Frame) (kind : TxKind) (t : Nat) (s : State) :
    (txStart f kind t s).pendCause = s.pendCause := rfl
@[simp] theorem txStart_txFrame (f : Frame) (kind : TxKind) (t : Nat) (s : State) :
    (txStart f kind t s).txFrame = f := rfl
@[simp] theorem txStart_txIdx (f : Frame) (kind : TxKind) (t : Nat) (s : State) :
    (txStart f kind t s).txIdx = 0#7 := rfl
@[simp] theorem txStart_txKind (f : Frame) (kind : TxKind) (t : Nat) (s : State) :
    (txStart f kind t s).txKind = kind := rfl
@[simp] theorem txStart_txT0 (f : Frame) (kind : TxKind) (t : Nat) (s : State) : (txStart f kind t s).txT0 = t := rfl
@[simp] theorem txStart_lineOut (f : Frame) (kind : TxKind) (t : Nat) (s : State) :
    (txStart f kind t s).lineOut = s.lineOut := rfl
@[simp] theorem txStart_irqEn (f : Frame) (kind : TxKind) (t : Nat) (s : State) :
    (txStart f kind t s).irqEn = s.irqEn := rfl
@[simp] theorem txStart_cbEn (f : Frame) (kind : TxKind) (t : Nat) (s : State) :
    (txStart f kind t s).cbEn = s.cbEn := rfl
@[simp] theorem txStart_cfg (f : Frame) (kind : TxKind) (t : Nat) (s : State) :
    (txStart f kind t s).cfg = s.cfg := rfl
@[simp] theorem txStart_now (f : Frame) (kind : TxKind) (t : Nat) (s : State) :
    (txStart f kind t s).now = s.now := rfl
@[simp] theorem txStart_line (f : Frame) (kind : TxKind) (t : Nat) (s : State) :
    (txStart f kind t s).line = s.line := rfl
@[simp] theorem txStart_host (f : Frame) (kind : TxKind) (t : Nat) (s : State) :
    (txStart f kind t s).host = s.host := rfl
@[simp] theorem txStart_polls (f : Frame) (kind : TxKind) (t : Nat) (s : State) :
    (txStart f kind t s).polls = s.polls := rfl
@[simp] theorem txStart_sync (f : Frame) (kind : TxKind) (t : Nat) (s : State) :
    (txStart f kind t s).sync = s.sync := rfl
@[simp] theorem txStart_out (f : Frame) (kind : TxKind) (t : Nat) (s : State) :
    (txStart f kind t s).out = s.out := rfl

/-! ### `txHalfPeriod` -/

@[simp] theorem txHalfPeriod_status (s : State) : (txHalfPeriod s).status = s.status := rfl
@[simp] theorem txHalfPeriod_respStatus (s : State) : (txHalfPeriod s).respStatus = s.respStatus := rfl
@[simp] theorem txHalfPeriod_lastResponse (s : State) : (txHalfPeriod s).lastResponse = s.lastResponse := rfl
@[simp] theorem txHalfPeriod_rxShift (s : State) : (txHalfPeriod s).rxShift = s.rxShift := rfl
@[simp] theorem txHalfPeriod_bitIdx (s : State) : (txHalfPeriod s).bitIdx = s.bitIdx := rfl
@[simp] theorem txHalfPeriod_rxTs (s : State) : (txHalfPeriod s).rxTs = s.rxTs := rfl
@[simp] theorem txHalfPeriod_pendCause (s : State) : (txHalfPeriod s).pendCause = s.pendCause := rfl
@[simp] theorem txHalfPeriod_txFrame (s : State) : (txHalfPeriod s).txFrame = s.txFrame := rfl
@[simp] theorem txHalfPeriod_txIdx (s : State) : (txHalfPeriod s).txIdx = s.txIdx + 1#7 := rfl
@[simp] theorem txHalfPeriod_txKind (s : State) : (txHalfPeriod s).txKind = s.txKind := rfl
@[simp] theorem txHalfPeriod_txT0 (s : State) : (txHalfPeriod s).txT0 = s.txT0 := rfl
@[simp] theorem txHalfPeriod_lineOut (s : State) : (txHalfPeriod s).lineOut = halfLevel s.txFrame s.txIdx.toNat := rfl
@[simp] theorem txHalfPeriod_irqEn (s : State) : (txHalfPeriod s).irqEn = s.irqEn := rfl
@[simp] theorem txHalfPeriod_cbEn (s : State) : (txHalfPeriod s).cbEn = s.cbEn := rfl
@[simp] theorem txHalfPeriod_cfg (s : State) : (txHalfPeriod s).cfg = s.cfg := rfl
@[simp] theorem txHalfPeriod_now (s : State) : (txHalfPeriod s).now = s.now := rfl
@[simp] theorem txHalfPeriod_line (s : State) : (txHalfPeriod s).line = s.line := rfl
@[simp] theorem txHalfPeriod_host (s : State) : (txHalfPeriod s).host = s.host := rfl
@[simp] theorem txHalfPeriod_polls (s : State) : (txHalfPeriod s).polls = s.polls := rfl
@[simp] theorem txHalfPeriod_sync (s : State) : (txHalfPeriod s).sync = s.sync := rfl
@[simp] theorem txHalfPeriod_out (s : State) : (txHalfPeriod s).out = s.out := rfl

/-! ### `txComplete` -/

@[simp] theorem txComplete_status (t : Nat) (s : State) :
    (txComplete t s).status = (match s.txKind with | .request => .responseWaiting | .response => .ready) := rfl
@[simp] theorem txComplete_respStatus (t : Nat) (s : State) : (txComplete t s).respStatus = s.respStatus := rfl
@[simp] theorem txComplete_lastResponse (t : Nat) (s : State) : (txComplete t s).lastResponse = s.lastResponse := rfl
@[simp] theorem txComplete_rxShift (t : Nat) (s : State) : (txComplete t s).rxShift = s.rxShift := rfl
@[simp] theorem txComplete_bitIdx (t : Nat) (s : State) : (txComplete t s).bitIdx = s.bitIdx := rfl
@[simp] theorem txComplete_rxTs (t : Nat) (s : State) : (txComplete t s).rxTs = t := rfl
@[simp] theorem txComplete_pendCause (t : Nat) (s : State) : (txComplete t s).pendCause = s.pendCause := rfl
@[simp] theorem txComplete_txFrame (t : Nat) (s : State) : (txComplete t s).txFrame = s.txFrame := rfl
@[simp] theorem txComplete_txIdx (t : Nat) (s : State) : (txComplete t s).txIdx = 0#7 := rfl
@[simp] theorem txComplete_txKind (t : Nat) (s : State) : (txComplete t s).txKind = s.txKind := rfl
@[simp] theorem txComplete_txT0 (t : Nat) (s : State) : (txComplete t s).txT0 = s.txT0 := rfl
@[simp] theorem txComplete_lineOut (t : Nat) (s : State) : (txComplete t s).lineOut = .idle := rfl
@[simp] theorem txComplete_irqEn (t : Nat) (s : State) : (txComplete t s).irqEn = s.irqEn := rfl
@[simp] theorem txComplete_cbEn (t : Nat) (s : State) : (txComplete t s).cbEn = s.cbEn := rfl
@[simp] theorem txComplete_cfg (t : Nat) (s : State) : (txComplete t s).cfg = s.cfg := rfl
@[simp] theorem txComplete_now (t : Nat) (s : State) : (txComplete t s).now = s.now := rfl
@[simp] theorem txComplete_line (t : Nat) (s : State) : (txComplete t s).line = s.line := rfl
@[simp] theorem txComplete_host (t : Nat) (s : State) : (txComplete t s).host = s.host := rfl
@[simp] theorem txComplete_polls (t : Nat) (s : State) : (txComplete t s).polls = s.polls := rfl
@[simp] theorem txComplete_sync (t : Nat) (s : State) : (txComplete t s).sync = s.sync := rfl
@[simp] theorem txComplete_out (t : Nat) (s : State) : (txComplete t s).out = s.out := rfl

/-! ### `shiftIn` -/

@[simp] theorem shiftIn_status (b : Bool) (t : Nat) (s : State) : (shiftIn b t s).status = s.status := rfl
@[simp] theorem shiftIn_respStatus (b : Bool) (t : Nat) (s : State) :
    (shiftIn b t s).respStatus = s.respStatus := rfl
@[simp] theorem shiftIn_lastResponse (b : Bool) (t : Nat) (s : State) :
    (shiftIn b t s).lastResponse = s.lastResponse := rfl
@[simp] theorem shiftIn_rxShift (b : Bool) (t : Nat) (s : State) :
    (shiftIn b t s).rxShift = (s.rxShift <<< 1) ||| (BitVec.ofBool b).zeroExtend 32 := rfl
@[simp] theorem shiftIn_bitIdx (b : Bool) (t : Nat) (s : State) : (shiftIn b t s).bitIdx = s.bitIdx + 1#6 := rfl
@[simp] theorem shiftIn_rxTs (b : Bool) (t : Nat) (s : State) : (shiftIn b t s).rxTs = t := rfl
@[simp] theorem shiftIn_pendCause (b : Bool) (t : Nat) (s : State) : (shiftIn b t s).pendCause = s.pendCause := rfl
@[simp] theorem shiftIn_txFrame (b : Bool) (t : Nat) (s : State) : (shiftIn b t s).txFrame = s.txFrame := rfl
@[simp] theorem shiftIn_txIdx (b : Bool) (t : Nat) (s : State) : (shiftIn b t s).txIdx = s.txIdx := rfl
@[simp] theorem shiftIn_txKind (b : Bool) (t : Nat) (s : State) : (shiftIn b t s).txKind = s.txKind := rfl
@[simp] theorem shiftIn_txT0 (b : Bool) (t : Nat) (s : State) : (shiftIn b t s).txT0 = s.txT0 := rfl
@[simp] theorem shiftIn_lineOut (b : Bool) (t : Nat) (s : State) : (shiftIn b t s).lineOut = s.lineOut := rfl
@[simp] theorem shiftIn_irqEn (b : Bool) (t : Nat) (s : State) : (shiftIn b t s).irqEn = s.irqEn := rfl
@[simp] theorem shiftIn_cbEn (b : Bool) (t : Nat) (s : State) : (shiftIn b t s).cbEn = s.cbEn := rfl
@[simp] theorem shiftIn_cfg (b : Bool) (t : Nat) (s : State) : (shiftIn b t s).cfg = s.cfg := rfl
@[simp] theorem shiftIn_now (b : Bool) (t : Nat) (s : State) : (shiftIn b t s).now = s.now := rfl
@[simp] theorem shiftIn_line (b : Bool) (t : Nat) (s : State) : (shiftIn b t s).line = s.line := rfl
@[simp] theorem shiftIn_host (b : Bool) (t : Nat) (s : State) : (shiftIn b t s).host = s.host := rfl
@[simp] theorem shiftIn_polls (b : Bool) (t : Nat) (s : State) : (shiftIn b t s).polls = s.polls := rfl
@[simp] theorem shiftIn_sync (b : Bool) (t : Nat) (s : State) : (shiftIn b t s).sync = s.sync := rfl
@[simp] theorem shiftIn_out (b : Bool) (t : Nat) (s : State) : (shiftIn b t s).out = s.out := rfl

/-! ### `edgeInWaiting` -/

@[simp] theorem edgeInWaiting_status (t : Nat) (s : State) : (edgeInWaiting t s).status = .responseStartBit := rfl
@[simp] theorem edgeInWaiting_respStatus (t : Nat) (s : State) : (edgeInWaiting t s).respStatus = s.respStatus := rfl
@[simp] theorem edgeInWaiting_lastResponse (t : Nat) (s : State) :
    (edgeInWaiting t s).lastResponse = s.lastResponse := rfl
@[simp] theorem edgeInWaiting_rxShift (t : Nat) (s : State) : (edgeInWaiting t s).rxShift = s.rxShift := rfl
@[simp] theorem edgeInWaiting_bitIdx (t : Nat) (s : State) : (edgeInWaiting t s).bitIdx = s.bitIdx := rfl
@[simp] theorem edgeInWaiting_rxTs (t : Nat) (s : State) : (edgeInWaiting t s).rxTs = t := rfl
@[simp] theorem edgeInWaiting_pendCause (t : Nat) (s : State) : (edgeInWaiting t s).pendCause = s.pendCause := rfl
@[simp] theorem edgeInWaiting_txFrame (t : Nat) (s : State) : (edgeInWaiting t s).txFrame = s.txFrame := rfl
@[simp] theorem edgeInWaiting_txIdx (t : Nat) (s : State) : (edgeInWaiting t s).txIdx = s.txIdx := rfl
@[simp] theorem edgeInWaiting_txKind (t : Nat) (s : State) : (edgeInWaiting t s).txKind = s.txKind := rfl
@[simp] theorem edgeInWaiting_txT0 (t : Nat) (s : State) : (edgeInWaiting t s).txT0 = s.txT0 := rfl
@[simp] theorem edgeInWaiting_lineOut (t : Nat) (s : State) : (edgeInWaiting t s).lineOut = s.lineOut := rfl
@[simp] theorem edgeInWaiting_irqEn (t : Nat) (s : State) : (edgeInWaiting t s).irqEn = s.irqEn := rfl
@[simp] theorem edgeInWaiting_cbEn (t : Nat) (s : State) : (edgeInWaiting t s).cbEn = s.cbEn := rfl
@[simp] theorem edgeInWaiting_cfg (t : Nat) (s : State) : (edgeInWaiting t s).cfg = s.cfg := rfl
@[simp] theorem edgeInWaiting_now (t : Nat) (s : State) : (edgeInWaiting t s).now = s.now := rfl
@[simp] theorem edgeInWaiting_line (t : Nat) (s : State) : (edgeInWaiting t s).line = s.line := rfl
@[simp] theorem edgeInWaiting_host (t : Nat) (s : State) : (edgeInWaiting t s).host = s.host := rfl
@[simp] theorem edgeInWaiting_polls (t : Nat) (s : State) : (edgeInWaiting t s).polls = s.polls := rfl
@[simp] theorem edgeInWaiting_sync (t : Nat) (s : State) : (edgeInWaiting t s).sync = s.sync := rfl
@[simp] theorem edgeInWaiting_out (t : Nat) (s : State) : (edgeInWaiting t s).out = s.out := rfl

/-! ### `endEffect` -/

@[simp] theorem endEffect_status (s : State) : (endEffect s).status = .notInitialized := rfl
@[simp] theorem endEffect_respStatus (s : State) : (endEffect s).respStatus = s.respStatus := rfl
@[simp] theorem endEffect_lastResponse (s : State) : (endEffect s).lastResponse = s.lastResponse := rfl
@[simp] theorem endEffect_rxShift (s : State) : (endEffect s).rxShift = s.rxShift := rfl
@[simp] theorem endEffect_bitIdx (s : State) : (endEffect s).bitIdx = s.bitIdx := rfl
@[simp] theorem endEffect_rxTs (s : State) : (endEffect s).rxTs = s.rxTs := rfl
@[simp] theorem endEffect_pendCause (s : State) : (endEffect s).pendCause = s.pendCause := rfl
@[simp] theorem endEffect_txFrame (s : State) : (endEffect s).txFrame = s.txFrame := rfl
@[simp] theorem endEffect_txIdx (s : State) : (endEffect s).txIdx = 0#7 := rfl
@[simp] theorem endEffect_txKind (s : State) : (endEffect s).txKind = s.txKind := rfl
@[simp] theorem endEffect_txT0 (s : State) : (endEffect s).txT0 = s.txT0 := rfl
@[simp] theorem endEffect_lineOut (s : State) : (endEffect s).lineOut = .idle := rfl
@[simp] theorem endEffect_irqEn (s : State) : (endEffect s).irqEn = false := rfl
@[simp] theorem endEffect_cbEn (s : State) : (endEffect s).cbEn = false := rfl
@[simp] theorem endEffect_cfg (s : State) : (endEffect s).cfg = s.cfg := rfl
@[simp] theorem endEffect_now (s : State) : (endEffect s).now = s.now := rfl
@[simp] theorem endEffect_line (s : State) : (endEffect s).line = s.line := rfl
@[simp] theorem endEffect_host (s : State) : (endEffect s).host = s.host := rfl
@[simp] theorem endEffect_polls (s : State) : (endEffect s).polls = s.polls := rfl
@[simp] theorem endEffect_sync (s : State) : (endEffect s).sync = s.sync := rfl
@[simp] theorem endEffect_out (s : State) : (endEffect s).out = s.out := rfl

/-! ### `endSync` -/

@[simp] theorem endSync_status (kind : SyncKind) (f : Frame) (s : State) : (endSync kind f s).status = s.status := rfl
@[simp] theorem endSync_respStatus (kind : SyncKind) (f : Frame) (s : State) :
    (endSync kind f s).respStatus = s.respStatus := rfl
@[simp] theorem endSync_lastResponse (kind : SyncKind) (f : Frame) (s : State) :
    (endSync kind f s).lastResponse = s.lastResponse := rfl
@[simp] theorem endSync_rxShift (kind : SyncKind) (f : Frame) (s : State) :
    (endSync kind f s).rxShift = s.rxShift := rfl
@[simp] theorem endSync_bitIdx (kind : SyncKind) (f : Frame) (s : State) : (endSync kind f s).bitIdx = s.bitIdx := rfl
@[simp] theorem endSync_rxTs (kind : SyncKind) (f : Frame) (s : State) : (endSync kind f s).rxTs = s.rxTs := rfl
@[simp] theorem endSync_pendCause (kind : SyncKind) (f : Frame) (s : State) :
    (endSync kind f s).pendCause = s.pendCause := rfl
@[simp] theorem endSync_txFrame (kind : SyncKind) (f : Frame) (s : State) :
    (endSync kind f s).txFrame = s.txFrame := rfl
@[simp] theorem endSync_txIdx (kind : SyncKind) (f : Frame) (s : State) : (endSync kind f s).txIdx = s.txIdx := rfl
@[simp] theorem endSync_txKind (kind : SyncKind) (f : Frame) (s : State) : (endSync kind f s).txKind = s.txKind := rfl
@[simp] theorem endSync_txT0 (kind : SyncKind) (f : Frame) (s : State) : (endSync kind f s).txT0 = s.txT0 := rfl
@[simp] theorem endSync_lineOut (kind : SyncKind) (f : Frame) (s : State) :
    (endSync kind f s).lineOut = s.lineOut := rfl
@[simp] theorem endSync_irqEn (kind : SyncKind) (f : Frame) (s : State) : (endSync kind f s).irqEn = s.irqEn := rfl
@[simp] theorem endSync_cbEn (kind : SyncKind) (f : Frame) (s : State) : (endSync kind f s).cbEn = s.cbEn := rfl
@[simp] theorem endSync_cfg (kind : SyncKind) (f : Frame) (s : State) : (endSync kind f s).cfg = s.cfg := rfl
@[simp] theorem endSync_now (kind : SyncKind) (f : Frame) (s : State) : (endSync kind f s).now = s.now := rfl
@[simp] theorem endSync_line (kind : SyncKind) (f : Frame) (s : State) : (endSync kind f s).line = s.line := rfl
@[simp] theorem endSync_host (kind : SyncKind) (f : Frame) (s : State) : (endSync kind f s).host = s.host := rfl
@[simp] theorem endSync_polls (kind : SyncKind) (f : Frame) (s : State) : (endSync kind f s).polls = s.polls := rfl
@[simp] theorem endSync_sync (kind : SyncKind) (f : Frame) (s : State) : (endSync kind f s).sync = none := rfl
@[simp] theorem endSync_out (kind : SyncKind) (f : Frame) (s : State) :
    (endSync kind f s).out = { s.out with result := syncResult kind f s } := rfl

/-! ### `atTime` -/

@[simp] theorem atTime_status (t : Nat) (s : State) : (atTime t s).status = s.status := rfl
@[simp] theorem atTime_respStatus (t : Nat) (s : State) : (atTime t s).respStatus = s.respStatus := rfl
@[simp] theorem atTime_lastResponse (t : Nat) (s : State) : (atTime t s).lastResponse = s.lastResponse := rfl
@[simp] theorem atTime_rxShift (t : Nat) (s : State) : (atTime t s).rxShift = s.rxShift := rfl
@[simp] theorem atTime_bitIdx (t : Nat) (s : State) : (atTime t s).bitIdx = s.bitIdx := rfl
@[simp] theorem atTime_rxTs (t : Nat) (s : State) : (atTime t s).rxTs = s.rxTs := rfl
@[simp] theorem atTime_pendCause (t : Nat) (s : State) : (atTime t s).pendCause = s.pendCause := rfl
@[simp] theorem atTime_txFrame (t : Nat) (s : State) : (atTime t s).txFrame = s.txFrame := rfl
@[simp] theorem atTime_txIdx (t : Nat) (s : State) : (atTime t s).txIdx = s.txIdx := rfl
@[simp] theorem atTime_txKind (t : Nat) (s : State) : (atTime t s).txKind = s.txKind := rfl
@[simp] theorem atTime_txT0 (t : Nat) (s : State) : (atTime t s).txT0 = s.txT0 := rfl
@[simp] theorem atTime_lineOut (t : Nat) (s : State) : (atTime t s).lineOut = s.lineOut := rfl
@[simp] theorem atTime_irqEn (t : Nat) (s : State) : (atTime t s).irqEn = s.irqEn := rfl
@[simp] theorem atTime_cbEn (t : Nat) (s : State) : (atTime t s).cbEn = s.cbEn := rfl
@[simp] theorem atTime_cfg (t : Nat) (s : State) : (atTime t s).cfg = s.cfg := rfl
@[simp] theorem atTime_now (t : Nat) (s : State) : (atTime t s).now = t := rfl
@[simp] theorem atTime_line (t : Nat) (s : State) : (atTime t s).line = s.line := rfl
@[simp] theorem atTime_host (t : Nat) (s : State) : (atTime t s).host = s.host := rfl
@[simp] theorem atTime_polls (t : Nat) (s : State) : (atTime t s).polls = s.polls := rfl
@[simp] theorem atTime_sync (t : Nat) (s : State) : (atTime t s).sync = s.sync := rfl
@[simp] theorem atTime_out (t : Nat) (s : State) : (atTime t s).out = s.out := rfl

/-! ### `usePoll` -/

@[simp] theorem usePoll_status (s : State) : (usePoll s).status = s.status := rfl
@[simp] theorem usePoll_respStatus (s : State) : (usePoll s).respStatus = s.respStatus := rfl
@[simp] theorem usePoll_lastResponse (s : State) : (usePoll s).lastResponse = s.lastResponse := rfl
@[simp] theorem usePoll_rxShift (s : State) : (usePoll s).rxShift = s.rxShift := rfl
@[simp] theorem usePoll_bitIdx (s : State) : (usePoll s).bitIdx = s.bitIdx := rfl
@[simp] theorem usePoll_rxTs (s : State) : (usePoll s).rxTs = s.rxTs := rfl
@[simp] theorem usePoll_pendCause (s : State) : (usePoll s).pendCause = s.pendCause := rfl
@[simp] theorem usePoll_txFrame (s : State) : (usePoll s).txFrame = s.txFrame := rfl
@[simp] theorem usePoll_txIdx (s : State) : (usePoll s).txIdx = s.txIdx := rfl
@[simp] theorem usePoll_txKind (s : State) : (usePoll s).txKind = s.txKind := rfl
@[simp] theorem usePoll_txT0 (s : State) : (usePoll s).txT0 = s.txT0 := rfl
@[simp] theorem usePoll_lineOut (s : State) : (usePoll s).lineOut = s.lineOut := rfl
@[simp] theorem usePoll_irqEn (s : State) : (usePoll s).irqEn = s.irqEn := rfl
@[simp] theorem usePoll_cbEn (s : State) : (usePoll s).cbEn = s.cbEn := rfl
@[simp] theorem usePoll_cfg (s : State) : (usePoll s).cfg = s.cfg := rfl
@[simp] theorem usePoll_now (s : State) : (usePoll s).now = s.now := rfl
@[simp] theorem usePoll_line (s : State) : (usePoll s).line = s.line := rfl
@[simp] theorem usePoll_host (s : State) : (usePoll s).host = s.host := rfl
@[simp] theorem usePoll_polls (s : State) : (usePoll s).polls = s.polls.tail := rfl
@[simp] theorem usePoll_sync (s : State) : (usePoll s).sync = s.sync := rfl
@[simp] theorem usePoll_out (s : State) : (usePoll s).out = s.out := rfl

/-! ### `placeHostWord` -/

@[simp] theorem placeHostWord_status (w : HostWord) (s : State) : (placeHostWord w s).status = s.status := rfl
@[simp] theorem placeHostWord_respStatus (w : HostWord) (s : State) :
    (placeHostWord w s).respStatus = s.respStatus := rfl
@[simp] theorem placeHostWord_lastResponse (w : HostWord) (s : State) :
    (placeHostWord w s).lastResponse = s.lastResponse := rfl
@[simp] theorem placeHostWord_rxShift (w : HostWord) (s : State) : (placeHostWord w s).rxShift = s.rxShift := rfl
@[simp] theorem placeHostWord_bitIdx (w : HostWord) (s : State) : (placeHostWord w s).bitIdx = s.bitIdx := rfl
@[simp] theorem placeHostWord_rxTs (w : HostWord) (s : State) : (placeHostWord w s).rxTs = s.rxTs := rfl
@[simp] theorem placeHostWord_pendCause (w : HostWord) (s : State) :
    (placeHostWord w s).pendCause = s.pendCause := rfl
@[simp] theorem placeHostWord_txFrame (w : HostWord) (s : State) : (placeHostWord w s).txFrame = s.txFrame := rfl
@[simp] theorem placeHostWord_txIdx (w : HostWord) (s : State) : (placeHostWord w s).txIdx = s.txIdx := rfl
@[simp] theorem placeHostWord_txKind (w : HostWord) (s : State) : (placeHostWord w s).txKind = s.txKind := rfl
@[simp] theorem placeHostWord_txT0 (w : HostWord) (s : State) : (placeHostWord w s).txT0 = s.txT0 := rfl
@[simp] theorem placeHostWord_lineOut (w : HostWord) (s : State) : (placeHostWord w s).lineOut = s.lineOut := rfl
@[simp] theorem placeHostWord_irqEn (w : HostWord) (s : State) : (placeHostWord w s).irqEn = s.irqEn := rfl
@[simp] theorem placeHostWord_cbEn (w : HostWord) (s : State) : (placeHostWord w s).cbEn = s.cbEn := rfl
@[simp] theorem placeHostWord_cfg (w : HostWord) (s : State) : (placeHostWord w s).cfg = s.cfg := rfl
@[simp] theorem placeHostWord_now (w : HostWord) (s : State) : (placeHostWord w s).now = s.now := rfl
@[simp] theorem placeHostWord_line (w : HostWord) (s : State) :
    (placeHostWord w s).line = s.line.filter (fun e => decide (s.now < e.time)) := rfl
@[simp] theorem placeHostWord_host (w : HostWord) (s : State) :
    (placeHostWord w s).host = { time := s.now, word := w } :: s.host := rfl
@[simp] theorem placeHostWord_polls (w : HostWord) (s : State) : (placeHostWord w s).polls = s.polls := rfl
@[simp] theorem placeHostWord_sync (w : HostWord) (s : State) : (placeHostWord w s).sync = none := rfl
@[simp] theorem placeHostWord_out (w : HostWord) (s : State) : (placeHostWord w s).out = s.out := rfl

/-! ### `emitCallback` and `deliver` -/

@[simp] theorem emitCallback_status (f : Frame) (rs : ResponseStatus) (s : State) :
    (emitCallback f rs s).status = s.status := by
  unfold emitCallback; split <;> rfl
@[simp] theorem emitCallback_respStatus (f : Frame) (rs : ResponseStatus) (s : State) :
    (emitCallback f rs s).respStatus = s.respStatus := by
  unfold emitCallback; split <;> rfl
@[simp] theorem emitCallback_lastResponse (f : Frame) (rs : ResponseStatus) (s : State) :
    (emitCallback f rs s).lastResponse = s.lastResponse := by
  unfold emitCallback; split <;> rfl
@[simp] theorem emitCallback_rxShift (f : Frame) (rs : ResponseStatus) (s : State) :
    (emitCallback f rs s).rxShift = s.rxShift := by
  unfold emitCallback; split <;> rfl
@[simp] theorem emitCallback_bitIdx (f : Frame) (rs : ResponseStatus) (s : State) :
    (emitCallback f rs s).bitIdx = s.bitIdx := by
  unfold emitCallback; split <;> rfl
@[simp] theorem emitCallback_rxTs (f : Frame) (rs : ResponseStatus) (s : State) :
    (emitCallback f rs s).rxTs = s.rxTs := by
  unfold emitCallback; split <;> rfl
@[simp] theorem emitCallback_pendCause (f : Frame) (rs : ResponseStatus) (s : State) :
    (emitCallback f rs s).pendCause = s.pendCause := by
  unfold emitCallback; split <;> rfl
@[simp] theorem emitCallback_txFrame (f : Frame) (rs : ResponseStatus) (s : State) :
    (emitCallback f rs s).txFrame = s.txFrame := by
  unfold emitCallback; split <;> rfl
@[simp] theorem emitCallback_txIdx (f : Frame) (rs : ResponseStatus) (s : State) :
    (emitCallback f rs s).txIdx = s.txIdx := by
  unfold emitCallback; split <;> rfl
@[simp] theorem emitCallback_txKind (f : Frame) (rs : ResponseStatus) (s : State) :
    (emitCallback f rs s).txKind = s.txKind := by
  unfold emitCallback; split <;> rfl
@[simp] theorem emitCallback_txT0 (f : Frame) (rs : ResponseStatus) (s : State) :
    (emitCallback f rs s).txT0 = s.txT0 := by
  unfold emitCallback; split <;> rfl
@[simp] theorem emitCallback_lineOut (f : Frame) (rs : ResponseStatus) (s : State) :
    (emitCallback f rs s).lineOut = s.lineOut := by
  unfold emitCallback; split <;> rfl
@[simp] theorem emitCallback_irqEn (f : Frame) (rs : ResponseStatus) (s : State) :
    (emitCallback f rs s).irqEn = s.irqEn := by
  unfold emitCallback; split <;> rfl
@[simp] theorem emitCallback_cbEn (f : Frame) (rs : ResponseStatus) (s : State) :
    (emitCallback f rs s).cbEn = s.cbEn := by
  unfold emitCallback; split <;> rfl
@[simp] theorem emitCallback_cfg (f : Frame) (rs : ResponseStatus) (s : State) :
    (emitCallback f rs s).cfg = s.cfg := by
  unfold emitCallback; split <;> rfl
@[simp] theorem emitCallback_now (f : Frame) (rs : ResponseStatus) (s : State) :
    (emitCallback f rs s).now = s.now := by
  unfold emitCallback; split <;> rfl
@[simp] theorem emitCallback_line (f : Frame) (rs : ResponseStatus) (s : State) :
    (emitCallback f rs s).line = s.line := by
  unfold emitCallback; split <;> rfl
@[simp] theorem emitCallback_host (f : Frame) (rs : ResponseStatus) (s : State) :
    (emitCallback f rs s).host = s.host := by
  unfold emitCallback; split <;> rfl
@[simp] theorem emitCallback_polls (f : Frame) (rs : ResponseStatus) (s : State) :
    (emitCallback f rs s).polls = s.polls := by
  unfold emitCallback; split <;> rfl
@[simp] theorem emitCallback_sync (f : Frame) (rs : ResponseStatus) (s : State) :
    (emitCallback f rs s).sync = s.sync := by
  unfold emitCallback; split <;> rfl

theorem emitCallback_out_on (f : Frame) (rs : ResponseStatus) (s : State) (h : s.cbEn = true) :
    (emitCallback f rs s).out = { s.out with callback := some (f, rs) } := by
  simp [emitCallback, h]

theorem emitCallback_out_off (f : Frame) (rs : ResponseStatus) (s : State) (h : s.cbEn = false) :
    (emitCallback f rs s).out = s.out := by
  simp [emitCallback, h]

@[simp] theorem deliver_status (rs : ResponseStatus) (s : State) : (deliver rs s).status = .ready := by
  simp [deliver]
@[simp] theorem deliver_respStatus (rs : ResponseStatus) (s : State) : (deliver rs s).respStatus = rs := by
  simp [deliver]
@[simp] theorem deliver_lastResponse (rs : ResponseStatus) (s : State) : (deliver rs s).lastResponse = s.rxShift := by
  simp [deliver]
@[simp] theorem deliver_rxShift (rs : ResponseStatus) (s : State) : (deliver rs s).rxShift = s.rxShift := by
  simp [deliver]
@[simp] theorem deliver_bitIdx (rs : ResponseStatus) (s : State) : (deliver rs s).bitIdx = s.bitIdx := by
  simp [deliver]
@[simp] theorem deliver_rxTs (rs : ResponseStatus) (s : State) : (deliver rs s).rxTs = s.rxTs := by
  simp [deliver]
@[simp] theorem deliver_pendCause (rs : ResponseStatus) (s : State) : (deliver rs s).pendCause = s.pendCause := by
  simp [deliver]
@[simp] theorem deliver_txFrame (rs : ResponseStatus) (s : State) : (deliver rs s).txFrame = s.txFrame := by
  simp [deliver]
@[simp] theorem deliver_txIdx (rs : ResponseStatus) (s : State) : (deliver rs s).txIdx = s.txIdx := by
  simp [deliver]
@[simp] theorem deliver_txKind (rs : ResponseStatus) (s : State) : (deliver rs s).txKind = s.txKind := by
  simp [deliver]
@[simp] theorem deliver_txT0 (rs : ResponseStatus) (s : State) : (deliver rs s).txT0 = s.txT0 := by
  simp [deliver]
@[simp] theorem deliver_lineOut (rs : ResponseStatus) (s : State) : (deliver rs s).lineOut = s.lineOut := by
  simp [deliver]
@[simp] theorem deliver_irqEn (rs : ResponseStatus) (s : State) : (deliver rs s).irqEn = s.irqEn := by
  simp [deliver]
@[simp] theorem deliver_cbEn (rs : ResponseStatus) (s : State) : (deliver rs s).cbEn = s.cbEn := by
  simp [deliver]
@[simp] theorem deliver_cfg (rs : ResponseStatus) (s : State) : (deliver rs s).cfg = s.cfg := by
  simp [deliver]
@[simp] theorem deliver_now (rs : ResponseStatus) (s : State) : (deliver rs s).now = s.now := by
  simp [deliver]
@[simp] theorem deliver_line (rs : ResponseStatus) (s : State) : (deliver rs s).line = s.line := by
  simp [deliver]
@[simp] theorem deliver_host (rs : ResponseStatus) (s : State) : (deliver rs s).host = s.host := by
  simp [deliver]
@[simp] theorem deliver_polls (rs : ResponseStatus) (s : State) : (deliver rs s).polls = s.polls := by
  simp [deliver]
@[simp] theorem deliver_sync (rs : ResponseStatus) (s : State) : (deliver rs s).sync = s.sync := by
  simp [deliver]

end Sys2Proof.Machine
end

