-- ==== Sys2Proof/Laws/Ops.lean ====
section
/-!
SUPPORT. One lemma per shared operation that says everything it can do; later proofs cite these and do not unfold the
operation.
-/

namespace Sys2Proof.Machine

/-! ### The shapes of a meaning -/

theorem pureStep_eq (r : Result) (s : State) :
    pureStep r s = .next { s with out := Outputs.returning r } := rfl

/-- A live step answers a next state exactly outside `DELAY`. -/
theorem liveStep_next_iff (effect : State → State) (s t : State) :
    liveStep effect s = .next t ↔ s.status ≠ .delay ∧ effect (quiet s) = t := by
  unfold liveStep
  split <;> simp_all

theorem liveStep_of_live (effect : State → State) (s : State) (h : s.status ≠ .delay) :
    liveStep effect s = .next (effect (quiet s)) := by
  simp [liveStep, h]

theorem liveStep_of_delay (effect : State → State) (s : State) (h : s.status = .delay) :
    liveStep effect s = .fault .stuckInDelay := by
  simp [liveStep, h]

/-- A live step is never refused. -/
theorem liveStep_ne_refused (effect : State → State) (s : State) (r : Refusal) : liveStep effect s ≠ .refused r := by
  unfold liveStep
  split <;> simp

theorem protocolStep_next_iff (effect : State → State) (s t : State) :
    protocolStep effect s = .next t ↔
      s.status ≠ .delay ∧ effect (watchdogFirst (clock s) (quiet s)) = t :=
  liveStep_next_iff _ s t

@[simp] theorem clock_quiet (s : State) : clock (quiet s) = clock s := rfl

/-- The clock is a value of its width (R43). -/
theorem clock_lt (s : State) : clock s < 2 ^ s.cfg.wTime := wrapTime_lt _ _

/-- The clock at a later time. -/
theorem clock_atTime (t : Nat) (s : State) : clock (atTime t s) = wrapTime s.cfg t := rfl

/-! ### The watchdog -/

@[simp] theorem watchdogDue_quiet (t : Nat) (s : State) : watchdogDue t (quiet s) = watchdogDue t s := rfl

theorem watchdogDue_iff (t : Nat) (s : State) :
    watchdogDue t s = true ↔ watched s.status = true ∧ s.cfg.tTimeout < elapsed s.cfg t s.rxTs := by
  simp [watchdogDue]

theorem watchdogFirst_of_not_due (t : Nat) (s : State) (h : watchdogDue t s = false) :
    watchdogFirst t s = s := by
  simp [watchdogFirst, h]

theorem watchdogFirst_of_due (t : Nat) (s : State) (h : watchdogDue t s = true) :
    watchdogFirst t s = takeError .timeout (watchdogInstant s) s := by
  simp [watchdogFirst, h]

/-- The evaluation at the head of a step does nothing, or it is the watchdog's own step. -/
theorem watchdogFirst_cases (t : Nat) (s : State) :
    (watchdogDue t s = false ∧ watchdogFirst t s = s) ∨
    (watchdogDue t s = true ∧ watchdogFirst t s = takeError .timeout (watchdogInstant s) s) := by
  cases h : watchdogDue t s
  · exact .inl ⟨rfl, watchdogFirst_of_not_due t s h⟩
  · exact .inr ⟨rfl, watchdogFirst_of_due t s h⟩

/-- The watchdog leaves no state that it watches. -/
theorem watchdogFirst_again (t : Nat) (s : State) : watchdogDue t (watchdogFirst t s) = false := by
  obtain ⟨h, e⟩ | ⟨-, e⟩ := watchdogFirst_cases t s
  · rw [e, h]
  · simp [e, watchdogDue, watched]

/-- An operation within the watchdog's bound acts on the state as it is. -/
theorem protocolStep_of_not_due (effect : State → State) (s : State) (h : s.status ≠ .delay)
    (hw : watchdogDue (clock s) s = false) : protocolStep effect s = .next (effect (quiet s)) := by
  rw [protocolStep, liveStep_of_live _ _ h, clock_quiet, watchdogFirst_of_not_due _ _ (by simpa using hw)]

/-- An operation past the watchdog's bound acts on the state the watchdog leaves. -/
theorem protocolStep_of_due (effect : State → State) (s : State) (hw : watchdogDue (clock s) s = true) :
    protocolStep effect s = .next (effect (takeError .timeout (watchdogInstant s) (quiet s))) := by
  have h : s.status ≠ .delay := by
    intro h
    simp [watchdogDue, watched, h] at hw
  rw [protocolStep, liveStep_of_live _ _ h, clock_quiet, watchdogFirst_of_due _ _ (by simpa using hw)]
  rfl

/-- A state holding `DELAY` has no protocol operation but `end`. -/
theorem protocolStep_of_delay (effect : State → State) (s : State) (h : s.status = .delay) :
    protocolStep effect s = .fault .stuckInDelay :=
  liveStep_of_delay _ s h

/-! ### What the evaluation at the head of a step leaves alone -/

@[simp] theorem watchdogFirst_respStatus (t : Nat) (s : State) : (watchdogFirst t s).respStatus = s.respStatus := by
  unfold watchdogFirst
  split <;> rfl
@[simp] theorem watchdogFirst_lastResponse (t : Nat) (s : State) : (watchdogFirst t s).lastResponse = s.lastResponse := by
  unfold watchdogFirst
  split <;> rfl
@[simp] theorem watchdogFirst_rxShift (t : Nat) (s : State) : (watchdogFirst t s).rxShift = s.rxShift := by
  unfold watchdogFirst
  split <;> rfl
@[simp] theorem watchdogFirst_bitIdx (t : Nat) (s : State) : (watchdogFirst t s).bitIdx = s.bitIdx := by
  unfold watchdogFirst
  split <;> rfl
@[simp] theorem watchdogFirst_txFrame (t : Nat) (s : State) : (watchdogFirst t s).txFrame = s.txFrame := by
  unfold watchdogFirst
  split <;> rfl
@[simp] theorem watchdogFirst_txIdx (t : Nat) (s : State) : (watchdogFirst t s).txIdx = s.txIdx := by
  unfold watchdogFirst
  split <;> rfl
@[simp] theorem watchdogFirst_txKind (t : Nat) (s : State) : (watchdogFirst t s).txKind = s.txKind := by
  unfold watchdogFirst
  split <;> rfl
@[simp] theorem watchdogFirst_txT0 (t : Nat) (s : State) : (watchdogFirst t s).txT0 = s.txT0 := by
  unfold watchdogFirst
  split <;> rfl
@[simp] theorem watchdogFirst_lineOut (t : Nat) (s : State) : (watchdogFirst t s).lineOut = s.lineOut := by
  unfold watchdogFirst
  split <;> rfl
@[simp] theorem watchdogFirst_irqEn (t : Nat) (s : State) : (watchdogFirst t s).irqEn = s.irqEn := by
  unfold watchdogFirst
  split <;> rfl
@[simp] theorem watchdogFirst_cbEn (t : Nat) (s : State) : (watchdogFirst t s).cbEn = s.cbEn := by
  unfold watchdogFirst
  split <;> rfl
@[simp] theorem watchdogFirst_cfg (t : Nat) (s : State) : (watchdogFirst t s).cfg = s.cfg := by
  unfold watchdogFirst
  split <;> rfl
@[simp] theorem watchdogFirst_now (t : Nat) (s : State) : (watchdogFirst t s).now = s.now := by
  unfold watchdogFirst
  split <;> rfl
@[simp] theorem watchdogFirst_line (t : Nat) (s : State) : (watchdogFirst t s).line = s.line := by
  unfold watchdogFirst
  split <;> rfl
@[simp] theorem watchdogFirst_host (t : Nat) (s : State) : (watchdogFirst t s).host = s.host := by
  unfold watchdogFirst
  split <;> rfl
@[simp] theorem watchdogFirst_polls (t : Nat) (s : State) : (watchdogFirst t s).polls = s.polls := by
  unfold watchdogFirst
  split <;> rfl
@[simp] theorem watchdogFirst_sync (t : Nat) (s : State) : (watchdogFirst t s).sync = s.sync := by
  unfold watchdogFirst
  split <;> rfl

@[simp] theorem clock_watchdogFirst (t : Nat) (s : State) : clock (watchdogFirst t s) = clock s := by
  simp [clock]

/-! ### Finalising -/

/-- Everything `process` can do (R166). -/
theorem finalise_cases (s : State) :
    (receiveEnded s.status = false ∧ finalise s = s) ∨
    (s.status = .responseReady ∧ validIn (expectedFamily s.cfg.role) s.rxShift = true ∧
      finalise s = deliver .success s) ∨
    (s.status = .responseReady ∧ validIn (expectedFamily s.cfg.role) s.rxShift = false ∧
      finalise s = deliver .invalid (report (validationFailure s.rxShift) s)) ∨
    (s.status = .responseInvalid ∧ s.pendCause = .timeout ∧ finalise s = deliver .timeout s) ∨
    (s.status = .responseInvalid ∧ s.pendCause = .framing ∧ finalise s = deliver .invalid s) := by
  cases hs : s.status <;> simp [finalise, receiveEnded, hs]
  · cases hv : validIn (expectedFamily s.cfg.role) s.rxShift <;> simp [finaliseReady, hv]
  · cases hp : s.pendCause <;> simp [finaliseInvalid, hp]

/-! ### What `process` leaves alone -/

@[simp] theorem finalise_rxShift (s : State) : (finalise s).rxShift = s.rxShift := by
  obtain ⟨-, e⟩ | ⟨-, -, e⟩ | ⟨-, -, e⟩ | ⟨-, -, e⟩ | ⟨-, -, e⟩ := finalise_cases s <;> simp [e]
@[simp] theorem finalise_bitIdx (s : State) : (finalise s).bitIdx = s.bitIdx := by
  obtain ⟨-, e⟩ | ⟨-, -, e⟩ | ⟨-, -, e⟩ | ⟨-, -, e⟩ | ⟨-, -, e⟩ := finalise_cases s <;> simp [e]
@[simp] theorem finalise_rxTs (s : State) : (finalise s).rxTs = s.rxTs := by
  obtain ⟨-, e⟩ | ⟨-, -, e⟩ | ⟨-, -, e⟩ | ⟨-, -, e⟩ | ⟨-, -, e⟩ := finalise_cases s <;> simp [e]
@[simp] theorem finalise_pendCause (s : State) : (finalise s).pendCause = s.pendCause := by
  obtain ⟨-, e⟩ | ⟨-, -, e⟩ | ⟨-, -, e⟩ | ⟨-, -, e⟩ | ⟨-, -, e⟩ := finalise_cases s <;> simp [e]
@[simp] theorem finalise_txFrame (s : State) : (finalise s).txFrame = s.txFrame := by
  obtain ⟨-, e⟩ | ⟨-, -, e⟩ | ⟨-, -, e⟩ | ⟨-, -, e⟩ | ⟨-, -, e⟩ := finalise_cases s <;> simp [e]
@[simp] theorem finalise_txIdx (s : State) : (finalise s).txIdx = s.txIdx := by
  obtain ⟨-, e⟩ | ⟨-, -, e⟩ | ⟨-, -, e⟩ | ⟨-, -, e⟩ | ⟨-, -, e⟩ := finalise_cases s <;> simp [e]
@[simp] theorem finalise_txKind (s : State) : (finalise s).txKind = s.txKind := by
  obtain ⟨-, e⟩ | ⟨-, -, e⟩ | ⟨-, -, e⟩ | ⟨-, -, e⟩ | ⟨-, -, e⟩ := finalise_cases s <;> simp [e]
@[simp] theorem finalise_txT0 (s : State) : (finalise s).txT0 = s.txT0 := by
  obtain ⟨-, e⟩ | ⟨-, -, e⟩ | ⟨-, -, e⟩ | ⟨-, -, e⟩ | ⟨-, -, e⟩ := finalise_cases s <;> simp [e]
@[simp] theorem finalise_lineOut (s : State) : (finalise s).lineOut = s.lineOut := by
  obtain ⟨-, e⟩ | ⟨-, -, e⟩ | ⟨-, -, e⟩ | ⟨-, -, e⟩ | ⟨-, -, e⟩ := finalise_cases s <;> simp [e]
@[simp] theorem finalise_irqEn (s : State) : (finalise s).irqEn = s.irqEn := by
  obtain ⟨-, e⟩ | ⟨-, -, e⟩ | ⟨-, -, e⟩ | ⟨-, -, e⟩ | ⟨-, -, e⟩ := finalise_cases s <;> simp [e]
@[simp] theorem finalise_cbEn (s : State) : (finalise s).cbEn = s.cbEn := by
  obtain ⟨-, e⟩ | ⟨-, -, e⟩ | ⟨-, -, e⟩ | ⟨-, -, e⟩ | ⟨-, -, e⟩ := finalise_cases s <;> simp [e]
@[simp] theorem finalise_cfg (s : State) : (finalise s).cfg = s.cfg := by
  obtain ⟨-, e⟩ | ⟨-, -, e⟩ | ⟨-, -, e⟩ | ⟨-, -, e⟩ | ⟨-, -, e⟩ := finalise_cases s <;> simp [e]
@[simp] theorem finalise_now (s : State) : (finalise s).now = s.now := by
  obtain ⟨-, e⟩ | ⟨-, -, e⟩ | ⟨-, -, e⟩ | ⟨-, -, e⟩ | ⟨-, -, e⟩ := finalise_cases s <;> simp [e]
@[simp] theorem finalise_line (s : State) : (finalise s).line = s.line := by
  obtain ⟨-, e⟩ | ⟨-, -, e⟩ | ⟨-, -, e⟩ | ⟨-, -, e⟩ | ⟨-, -, e⟩ := finalise_cases s <;> simp [e]
@[simp] theorem finalise_host (s : State) : (finalise s).host = s.host := by
  obtain ⟨-, e⟩ | ⟨-, -, e⟩ | ⟨-, -, e⟩ | ⟨-, -, e⟩ | ⟨-, -, e⟩ := finalise_cases s <;> simp [e]
@[simp] theorem finalise_polls (s : State) : (finalise s).polls = s.polls := by
  obtain ⟨-, e⟩ | ⟨-, -, e⟩ | ⟨-, -, e⟩ | ⟨-, -, e⟩ | ⟨-, -, e⟩ := finalise_cases s <;> simp [e]
@[simp] theorem finalise_sync (s : State) : (finalise s).sync = s.sync := by
  obtain ⟨-, e⟩ | ⟨-, -, e⟩ | ⟨-, -, e⟩ | ⟨-, -, e⟩ | ⟨-, -, e⟩ := finalise_cases s <;> simp [e]

@[simp] theorem clock_finalise (s : State) : clock (finalise s) = clock s := by
  simp [clock]

/-! ### Sending -/

theorem trySend_cases (f : Frame) (kind : TxKind) (s : State) :
    (s.status = .ready ∧ trySend f kind s = giveResult (.bool true) (txStart f kind (clock s) s)) ∨
    (s.status ≠ .ready ∧ trySend f kind s = giveResult (.bool false) s) := by
  by_cases h : s.status = .ready
  · exact .inl ⟨h, by simp [trySend, h]⟩
  · exact .inr ⟨h, by simp [trySend, h]⟩

theorem startSync_cases (kind : SyncKind) (f : Frame) (s : State) :
    (s.status = .ready ∧ startSync kind f s =
      { txStart f .request (clock s) s with sync := some { kind := kind, t0 := clock s } }) ∨
    (s.status ≠ .ready ∧ startSync kind f s = giveResult (syncResult kind s.cfg.sentinel s) s) := by
  by_cases h : s.status = .ready
  · exact .inl ⟨h, by simp [startSync, h]⟩
  · exact .inr ⟨h, by simp [startSync, h]⟩

theorem pollCall_cases (c : SyncCall) (s : State) :
    (receiveEnded s.status = true ∧
      pollCall c s = endSync c.kind (frameOrSentinel (finalise s)) (finalise s)) ∨
    (receiveEnded s.status = false ∧ syncExpired (clock s) c s = true ∧
      pollCall c s = endSync c.kind s.cfg.sentinel s) ∨
    (receiveEnded s.status = false ∧ syncExpired (clock s) c s = false ∧ pollCall c s = s) := by
  cases h : receiveEnded s.status <;> cases h' : syncExpired (clock s) c s <;> simp [pollCall, h, h']

/-! ### The transmit engine -/

/-- Everything `TXHALF` can do (R133, R134). -/
theorem txHalfEffect_cases (s : State) :
    (s.status = .requestSending ∧ s.txIdx.toNat ≤ 67 ∧ txHalfEffect s = txHalfPeriod s) ∨
    (s.status = .requestSending ∧ s.txIdx.toNat = 68 ∧ txHalfEffect s = txComplete (clock s) s) ∨
    ((s.status ≠ .requestSending ∨ 68 < s.txIdx.toNat) ∧ txHalfEffect s = s) := by
  by_cases h : s.status = .requestSending
  · rcases Nat.lt_trichotomy s.txIdx.toNat 68 with hk | hk | hk
    · exact .inl ⟨h, by omega, by simp [txHalfEffect, h]; omega⟩
    · exact .inr (.inl ⟨h, hk, by simp [txHalfEffect, h, hk]⟩)
    · refine .inr (.inr ⟨.inr hk, ?_⟩)
      have h1 : ¬ s.txIdx.toNat < 68 := by omega
      have h2 : ¬ s.txIdx.toNat = 68 := by omega
      simp [txHalfEffect, h, h1, h2]
  · exact .inr (.inr ⟨.inl h, by simp [txHalfEffect, h]⟩)

/-- The completion row is `TXHALF` at `tx_idx` = 68 (R134). -/
theorem txHalfCompletionEffect_eq (s : State) (h : s.txIdx.toNat = 68) :
    txHalfCompletionEffect s = txHalfEffect s := by
  by_cases hs : s.status = .requestSending <;> simp [txHalfCompletionEffect, txHalfEffect, h, hs]

/-! ### The edge handler -/

/-- Everything a sample can do (R147). -/
theorem sampleBit_cases (t : Nat) (lvl : Level) (s : State) :
    (s.bitIdx.toNat < 32 ∧ sampleBit t lvl s = shiftIn (sampledBit lvl) t s) ∨
    (32 ≤ s.bitIdx.toNat ∧ lvl = .idle ∧ sampleBit t lvl s = { s with status := .responseReady, rxTs := t }) ∨
    (32 ≤ s.bitIdx.toNat ∧ lvl = .active ∧ sampleBit t lvl s = takeError .framing t s) := by
  by_cases h : s.bitIdx.toNat < 32
  · exact .inl ⟨h, by simp [sampleBit, h]⟩
  · cases lvl
    · exact .inr (.inl ⟨by omega, rfl, by simp [sampleBit, h, sampledBit]⟩)
    · exact .inr (.inr ⟨by omega, rfl, by simp [sampleBit, h, sampledBit]⟩)

/-- Everything an edge can do to the state the watchdog left (R143 to R147). -/
theorem edgeByStatus_cases (t : Nat) (lvl : Level) (s : State) :
    edgeByStatus t lvl s = s ∨
    (s.status = .ready ∧ s.cfg.role = .slave ∧ lvl = .active ∧ edgeByStatus t lvl s = edgeInWaiting t s) ∨
    (s.status = .responseWaiting ∧ edgeByStatus t lvl s = edgeInWaiting t s) ∨
    (s.status = .responseStartBit ∧ intervalClass s.cfg (elapsed s.cfg t s.rxTs) = .half ∧ lvl = .idle ∧
      edgeByStatus t lvl s =
        { s with status := .responseReceiving, bitIdx := 0#6, rxShift := 0#32, rxTs := t }) ∨
    ((s.status = .responseStartBit ∨ s.status = .responseReceiving) ∧
      edgeByStatus t lvl s = takeError .framing t s) ∨
    (s.status = .responseReceiving ∧ intervalClass s.cfg (elapsed s.cfg t s.rxTs) = .full ∧ s.bitIdx.toNat < 32 ∧
      edgeByStatus t lvl s = shiftIn (sampledBit lvl) t s) ∨
    (s.status = .responseReceiving ∧ intervalClass s.cfg (elapsed s.cfg t s.rxTs) = .full ∧ 32 ≤ s.bitIdx.toNat ∧
      lvl = .idle ∧ edgeByStatus t lvl s = { s with status := .responseReady, rxTs := t }) := by
  cases hs : s.status <;> simp only [edgeByStatus, hs] <;> try simp
  · unfold edgeInReady
    split
    · rename_i h; simp [h, edgeInWaiting]
    · simp
  · unfold edgeInStartBit
    split
    · rename_i h; simp [h]
    · simp
  · unfold edgeInReceiving
    cases hc : intervalClass s.cfg (elapsed s.cfg t s.rxTs) <;> simp
    obtain ⟨h, e⟩ | ⟨h, hl, e⟩ | ⟨h, hl, e⟩ := sampleBit_cases t lvl s
    · simp [h, e]
    · subst hl
      simp [h, e]
    · simp [e]

theorem edgeHandler_detached (t : Nat) (lvl : Level) (s : State) (h : s.irqEn = false) :
    edgeHandler t lvl s = s := by
  simp [edgeHandler, h]

theorem edgeHandler_attached (t : Nat) (lvl : Level) (s : State) (h : s.irqEn = true) :
    edgeHandler t lvl s = edgeByStatus (wrapTime s.cfg t) lvl (watchdogFirst (wrapTime s.cfg t) s) := by
  simp [edgeHandler, h]

/-! ### The order of agents (R208) -/

/-- The earlier candidate, the first at one instant. -/
theorem sooner_cases (x y : Option (Nat × Agent)) :
    (sooner x y = x ∧ ∀ p ∈ x, ∀ q ∈ y, p.1 ≤ q.1) ∨ (sooner x y = y ∧ ∀ p ∈ x, ∃ q ∈ y, q.1 < p.1) := by
  cases x with
  | none => exact .inr (by simp [sooner])
  | some p =>
    cases y with
    | none => exact .inl (by simp [sooner])
    | some q =>
      by_cases h : q.1 < p.1
      · exact .inr (by simp [sooner, h])
      · exact .inl (by simp [sooner, h]; omega)

end Sys2Proof.Machine
end

