-- ==== Sys2Proof/Laws/Exec.lean ====
section
/-!
SUPPORT. What `exec` can do, said once over the three kinds of steps: a pure step gives a result, an event step is a
live step, a protocol operation acts after the watchdog.
-/

namespace Sys2Proof.Machine

/-- The effect of a step that is not pure, after the watchdog if the step evaluates it. -/
def opEffect (c : Config) : Instr → State → State
  | .beginOp cb => beginEffect cb
  | .endOp => endEffect
  | .isReady => fun q => giveResult (.bool (decide (q.status = .ready))) q
  | .sendRequest f => startSync .frame f
  | .sendRequestAsync f => trySend f .request
  | .sendResponse f => trySend f .response
  | .process => finalise
  | .getLastResponse => fun q => giveResult (.frame q.lastResponse) q
  | .getLastResponseStatus => fun q => giveResult (.responseStatus q.respStatus) q
  | .edge t lvl => edgeHandler t lvl
  | .txHalf => txHalfEffect
  | .txHalfCompletion => txHalfCompletionEffect
  | .wdg => wdgEffect
  | .setBoilerStatus ch dhw cool otc ch2 => startSync .frame (statusRequest c ch dhw cool otc ch2)
  | .getBoilerTemperature => startSync .temperature (temperatureRequest c)
  | .buildRequest _ _ _ | .buildResponse _ _ _ | .parity _ | .getMessageType _ | .getDataID _
  | .isValidRequest _ | .isValidResponse _ | .getUInt _ | .getFloat _ | .temperatureToData _ _
  | .isFault _ | .isCentralHeatingActive _ | .isHotWaterActive _ | .isFlameOn _ | .isCoolingActive _
  | .isDiagnostic _
  | .frameReadData _ _ _ _ | .frameWriteData _ _ _ _ | .frameInvalidData _ _ _ _ | .frameReserved _ _ _ _
  | .frameReadAck _ _ _ _ | .frameWriteAck _ _ _ _ | .frameDataInvalid _ _ _ _ | .frameUnknownDataId _ _ _ _
  | .buildSetBoilerStatusRequest _ _ _ _ _ => id

/-- A pure step gives a result and changes nothing else. -/
theorem exec_pure (i : Instr) (s : State) (h : isPure i = true) :
    ∃ r, exec i s = .next { s with out := Outputs.returning r } := by
  cases i <;> first
    | exact ⟨_, pureStep_eq _ s⟩
    | simp [isPure] at h

/-- An event step is a live step of its effect. -/
theorem exec_event (i : Instr) (s : State) (h : isEvent i = true) : exec i s = liveStep (opEffect s.cfg i) s := by
  cases i <;> first | rfl | simp [isEvent] at h

/-- A protocol operation but `end` acts after the watchdog. -/
theorem exec_protocol (i : Instr) (s : State) (h : isProtocol i = true) (he : i ≠ .endOp) :
    exec i s = protocolStep (opEffect s.cfg i) s := by
  cases i <;> first | rfl | exact absurd rfl he | simp [isProtocol, isPure, isEvent] at h

theorem exec_end (s : State) : exec .endOp s = .next (endEffect (watchdogFirst (clock s) (quiet s))) := rfl

/-- Everything a step that answers a next state can have done. -/
theorem exec_next_cases {i : Instr} {s t : State} (h : exec i s = .next t) :
    (isPure i = true ∧ ∃ r, t = { s with out := Outputs.returning r }) ∨
    (isEvent i = true ∧ s.status ≠ .delay ∧ t = opEffect s.cfg i (quiet s)) ∨
    (isProtocol i = true ∧ (i = .endOp ∨ s.status ≠ .delay) ∧
      t = opEffect s.cfg i (watchdogFirst (clock s) (quiet s))) := by
  by_cases hp : isPure i = true
  · obtain ⟨r, e⟩ := exec_pure i s hp
    rw [e] at h
    exact .inl ⟨hp, r, (Host.Outcome.next.inj h).symm⟩
  · by_cases hv : isEvent i = true
    · rw [exec_event i s hv, liveStep_next_iff] at h
      exact .inr (.inl ⟨hv, h.1, h.2.symm⟩)
    · have hq : isProtocol i = true := by simp [isProtocol, hp, hv]
      by_cases he : i = .endOp
      · subst he
        exact .inr (.inr ⟨hq, .inl rfl, (Host.Outcome.next.inj h).symm⟩)
      · rw [exec_protocol i s hq he, protocolStep_next_iff] at h
        exact .inr (.inr ⟨hq, .inr h.1, h.2.symm⟩)

end Sys2Proof.Machine
end

