-- ==== Sys2Proof/Laws/PerInstr.lean ====
section
/-!
SUPPORT. Statements made per instruction (LAWS.json): `EncodedShape`, the word of every instruction has the form the
decoder asks for, a 5-bit selector that names an operation and exactly its operand bytes or its rational operand, or
four frame bytes.
-/

namespace Sys2Proof.Laws.EncodedShape

/-- A command word passes the decoder's checks of its form; a frame word has four bytes. -/
def Statement (i : Instr) : Prop :=
  match encode i with
  | .host (.cmd bytes) =>
    ∃ b rest k, bytes = b :: rest ∧ b.toNat < 32 ∧ operandShape b.toNat = some (.bytes k) ∧ rest.length = k
  | .host (.realCmd b _ _) => b.toNat < 32 ∧ operandShape b.toNat = some .real
  | .host (.frame32 bytes) => bytes.length = 4
  | .host (.accessor _) => True
  | .signal _ => True

theorem beginOp (cb : Bool) : Statement (.beginOp cb) := cmd_shape 0 1 _ (by decide) rfl
theorem endOp : Statement .endOp := cmd_shape 1 0 _ (by decide) rfl
theorem isReady : Statement .isReady := cmd_shape 2 0 _ (by decide) rfl
theorem sendRequest (frame : Frame) : Statement (.sendRequest frame) := cmd_shape 3 4 _ (by decide) rfl
theorem sendRequestAsync (frame : Frame) : Statement (.sendRequestAsync frame) := cmd_shape 4 4 _ (by decide) rfl
theorem sendResponse (frame : Frame) : Statement (.sendResponse frame) := cmd_shape 5 4 _ (by decide) rfl
theorem process : Statement .process := cmd_shape 6 0 _ (by decide) rfl
theorem getLastResponse : Statement .getLastResponse := cmd_shape 7 0 _ (by decide) rfl
theorem getLastResponseStatus : Statement .getLastResponseStatus := cmd_shape 8 0 _ (by decide) rfl
theorem buildRequest (ty id data : Nat) : Statement (.buildRequest ty id data) := cmd_shape 16 8 _ (by decide) rfl
theorem buildResponse (ty id data : Nat) : Statement (.buildResponse ty id data) := cmd_shape 17 8 _ (by decide) rfl
theorem parity (frame : Frame) : Statement (.parity frame) := cmd_shape 18 4 _ (by decide) rfl
theorem getMessageType (frame : Frame) : Statement (.getMessageType frame) := cmd_shape 19 4 _ (by decide) rfl
theorem getDataID (frame : Frame) : Statement (.getDataID frame) := cmd_shape 20 4 _ (by decide) rfl
theorem isValidRequest (frame : Frame) : Statement (.isValidRequest frame) := cmd_shape 21 4 _ (by decide) rfl
theorem isValidResponse (frame : Frame) : Statement (.isValidResponse frame) := cmd_shape 22 4 _ (by decide) rfl
theorem getUInt (frame : Frame) : Statement (.getUInt frame) := cmd_shape 23 4 _ (by decide) rfl
theorem getFloat (frame : Frame) : Statement (.getFloat frame) := cmd_shape 24 4 _ (by decide) rfl
theorem temperatureToData (num : Int) (denPred : Nat) :
    Statement (.temperatureToData num denPred) := ⟨by decide, rfl⟩
theorem isFault (frame : Frame) : Statement (.isFault frame) := cmd_shape 26 4 _ (by decide) rfl
theorem isCentralHeatingActive (frame : Frame) :
    Statement (.isCentralHeatingActive frame) := cmd_shape 27 4 _ (by decide) rfl
theorem isHotWaterActive (frame : Frame) : Statement (.isHotWaterActive frame) := cmd_shape 28 4 _ (by decide) rfl
theorem isFlameOn (frame : Frame) : Statement (.isFlameOn frame) := cmd_shape 29 4 _ (by decide) rfl
theorem isCoolingActive (frame : Frame) : Statement (.isCoolingActive frame) := cmd_shape 30 4 _ (by decide) rfl
theorem isDiagnostic (frame : Frame) : Statement (.isDiagnostic frame) := cmd_shape 31 4 _ (by decide) rfl
theorem frameReadData (p : Bool) (spare : BitVec 4) (id : BitVec 8) (data : BitVec 16) :
    Statement (.frameReadData p spare id data) := leBytes_length 4 _
theorem frameWriteData (p : Bool) (spare : BitVec 4) (id : BitVec 8) (data : BitVec 16) :
    Statement (.frameWriteData p spare id data) := leBytes_length 4 _
theorem frameInvalidData (p : Bool) (spare : BitVec 4) (id : BitVec 8) (data : BitVec 16) :
    Statement (.frameInvalidData p spare id data) := leBytes_length 4 _
theorem frameReserved (p : Bool) (spare : BitVec 4) (id : BitVec 8) (data : BitVec 16) :
    Statement (.frameReserved p spare id data) := leBytes_length 4 _
theorem frameReadAck (p : Bool) (spare : BitVec 4) (id : BitVec 8) (data : BitVec 16) :
    Statement (.frameReadAck p spare id data) := leBytes_length 4 _
theorem frameWriteAck (p : Bool) (spare : BitVec 4) (id : BitVec 8) (data : BitVec 16) :
    Statement (.frameWriteAck p spare id data) := leBytes_length 4 _
theorem frameDataInvalid (p : Bool) (spare : BitVec 4) (id : BitVec 8) (data : BitVec 16) :
    Statement (.frameDataInvalid p spare id data) := leBytes_length 4 _
theorem frameUnknownDataId (p : Bool) (spare : BitVec 4) (id : BitVec 8) (data : BitVec 16) :
    Statement (.frameUnknownDataId p spare id data) := leBytes_length 4 _
theorem edge (t : Nat) (lvl : Level) : Statement (.edge t lvl) := trivial
theorem txHalf : Statement .txHalf := trivial
theorem txHalfCompletion : Statement .txHalfCompletion := trivial
theorem wdg : Statement .wdg := trivial
theorem buildSetBoilerStatusRequest (ch dhw cool otc ch2 : Bool) :
    Statement (.buildSetBoilerStatusRequest ch dhw cool otc ch2) := trivial
theorem setBoilerStatus (ch dhw cool otc ch2 : Bool) : Statement (.setBoilerStatus ch dhw cool otc ch2) := trivial
theorem getBoilerTemperature : Statement .getBoilerTemperature := trivial

end Sys2Proof.Laws.EncodedShape
end

