-- ==== Sys2Proof/Laws/Step.lean ====
section
/-!
SUPPORT. What `step` can do, said once: the agent that moves next has the earliest instant, and the step is `exec` of
its instruction, a poll, or nothing but time.
-/

namespace Sys2Proof.Machine

/-- The instant of an agent's next step, if it has one. -/
def agentTime (a : Agent) (s : State) : Option Nat :=
  match a with
  | .watchdog => watchdogTime s
  | .line => lineTime s
  | .engine => engineTime s
  | .host => hostTime s

/-- The place of an agent in the order at one instant (R208). -/
def agentRank : Agent → Nat
  | .watchdog => 0
  | .line => 1
  | .engine => 2
  | .host => 3

/-- `r` is the first of the agents `as`: none of them has a step to come, or `r` names the one with the earliest
instant that stands first in the order. -/
def IsFirst (s : State) (as : List Agent) (r : Option (Nat × Agent)) : Prop :=
  (r = none ∧ ∀ a ∈ as, agentTime a s = none) ∨
  (∃ n a, r = some (n, a) ∧ a ∈ as ∧ agentTime a s = some n ∧
    ∀ b ∈ as, ∀ m, agentTime b s = some m → n < m ∨ (n = m ∧ agentRank a ≤ agentRank b))

/-- An agent put in front of later ones. -/
theorem isFirst_sooner (s : State) (a : Agent) (as : List Agent) (r : Option (Nat × Agent))
    (h : IsFirst s as r) (hr : ∀ b ∈ as, agentRank a ≤ agentRank b) :
    IsFirst s (a :: as) (sooner (candidate a (agentTime a s)) r) := by
  cases ha : agentTime a s with
  | none =>
    obtain ⟨rfl, hall⟩ | ⟨n, b, rfl, hb, hn, hall⟩ := h
    · exact .inl ⟨rfl, by simpa [ha] using hall⟩
    · exact .inr ⟨n, b, rfl, by simp [hb], hn, by simpa [ha] using hall⟩
  | some k =>
    obtain ⟨rfl, hall⟩ | ⟨n, b, rfl, hb, hn, hall⟩ := h
    · refine .inr ⟨k, a, rfl, by simp, ha, fun c hc m hm => ?_⟩
      rcases List.mem_cons.1 hc with rfl | hc
      · exact .inr ⟨Option.some.inj (ha.symm.trans hm), Nat.le_refl _⟩
      · rw [hall c hc] at hm
        cases hm
    · by_cases hk : n < k
      · refine .inr ⟨n, b, by simp [candidate, sooner, hk], by simp [hb], hn, fun c hc m hm => ?_⟩
        rcases List.mem_cons.1 hc with rfl | hc
        · exact .inl (Option.some.inj (ha.symm.trans hm) ▸ hk)
        · exact hall c hc m hm
      · refine .inr ⟨k, a, by simp [candidate, sooner, hk], by simp, ha, fun c hc m hm => ?_⟩
        rcases List.mem_cons.1 hc with rfl | hc
        · exact .inr ⟨Option.some.inj (ha.symm.trans hm), Nat.le_refl _⟩
        · have := hall c hc m hm
          have := hr c hc
          omega

/-- No agent has a step to come, or the one that moves next is the first of those with the earliest instant. -/
theorem nextAgent_cases (s : State) :
    (nextAgent s = none ∧ ∀ a, agentTime a s = none) ∨
    (∃ n a, nextAgent s = some (n, a) ∧ agentTime a s = some n ∧
      ∀ b m, agentTime b s = some m → n < m ∨ (n = m ∧ agentRank a ≤ agentRank b)) := by
  have h0 : IsFirst s [.host] (candidate .host (hostTime s)) := by
    cases h : hostTime s with
    | none => exact .inl ⟨rfl, by simpa [agentTime] using h⟩
    | some n => exact .inr ⟨n, .host, rfl, by simp, h, by simp [agentTime, h]⟩
  have h1 := isFirst_sooner s .engine _ _ h0 (by simp [agentRank])
  have h2 := isFirst_sooner s .line _ _ h1 (by simp [agentRank])
  have h3 := isFirst_sooner s .watchdog _ _ h2 (by simp [agentRank])
  have hmem : ∀ a : Agent, a ∈ [Agent.watchdog, .line, .engine, .host] := by intro a; cases a <;> simp
  obtain ⟨e, hall⟩ | ⟨n, a, e, -, ha, hall⟩ := h3
  · exact .inl ⟨e, fun a => hall a (hmem a)⟩
  · exact .inr ⟨n, a, e, ha, fun b m hb => hall b (hmem b) m hb⟩

/-- No agent steps in the past. -/
theorem now_le_agentTime {a : Agent} {s : State} {n : Nat} (h : agentTime a s = some n) : s.now ≤ n := by
  cases a <;> simp only [agentTime] at h
  · unfold watchdogTime at h
    split at h <;> simp at h
    omega
  · unfold lineTime at h
    split at h <;> simp at h
    omega
  · unfold engineTime at h
    split at h <;> simp at h
    omega
  · unfold hostTime returnTime at h
    repeat' split at h
    all_goals cases h
    all_goals omega

/-- A host word never stands for an event step (R78). -/
theorem decodeHost_not_event (w : HostWord) (i : Instr) (h : decodeHost w = .ok i) : isEvent i = false := by
  cases w with
  | realCmd b num den =>
    simp only [decodeHost, decodeRealCmd] at h
    repeat' split at h
    all_goals cases h
    rfl
  | accessor c => cases c <;> cases h <;> rfl
  | frame32 bs =>
    simp only [decodeHost, decodeFrame32] at h
    split at h
    · cases h
      unfold decodeFrameWord
      split <;> rfl
    · cases h
  | cmd bs =>
    simp only [decodeHost, decodeCmd] at h
    repeat' split at h
    all_goals try cases h
    unfold decodeOperation at h
    split at h <;> first | (cases h; rfl) | cases h | skip
    unfold decodeBegin at h
    split at h <;> cases h <;> rfl

/-- A step that answers a next state: time alone has passed, or an agent has moved at its instant, which is no later
than any other agent's. -/
theorem step_next_cases {s t : State} (h : step s = .next t) :
    ((∀ a, agentTime a s = none) ∧ t = atTime (s.now + 1) (quiet s)) ∨
    (∃ n a, agentTime a s = some n ∧
      (∀ b m, agentTime b s = some m → n < m ∨ (n = m ∧ agentRank a ≤ agentRank b)) ∧
      ((a = .watchdog ∧ exec .wdg (atTime n s) = .next t) ∨
       (∃ e rest, a = .line ∧ s.line = e :: rest ∧
         exec (.edge (wrapTime s.cfg n) (lineRead s.cfg.polIn e.pinHigh)) { atTime n s with line := rest } =
           .next t) ∨
       (a = .engine ∧ s.txIdx.toNat = 68 ∧ exec .txHalfCompletion (atTime n s) = .next t) ∨
       (a = .engine ∧ s.txIdx.toNat ≠ 68 ∧ exec .txHalf (atTime n s) = .next t) ∨
       (∃ x rest i, a = .host ∧ s.sync = none ∧ s.host = x :: rest ∧ decodeHost x.word = .ok i ∧
         exec i { atTime n s with host := rest } = .next t) ∨
       (a = .host ∧ s.sync ≠ none ∧ pollSync (usePoll (atTime n s)) = .next t))) := by
  unfold step nextMove at h
  obtain ⟨hn, hall⟩ | ⟨n, a, hn, ha, hall⟩ := nextAgent_cases s
  · simp only [hn, Host.Outcome.next.injEq] at h
    exact .inl ⟨hall, h.symm⟩
  · refine .inr ⟨n, a, ha, hall, ?_⟩
    cases a <;> simp only [hn] at h
    · exact .inl ⟨rfl, h⟩
    · cases hl : s.line with
      | nil => simp [agentTime, lineTime, hl] at ha
      | cons e rest =>
        simp only [lineMove, atTime_line, hl] at h
        exact .inr (.inl ⟨e, rest, rfl, rfl, h⟩)
    · by_cases hx : s.txIdx.toNat = 68
      · simp only [engineMove, atTime_txIdx, completionIndex_eq, hx, if_true] at h
        exact .inr (.inr (.inl ⟨rfl, hx, h⟩))
      · simp only [engineMove, atTime_txIdx, completionIndex_eq, hx, if_false] at h
        exact .inr (.inr (.inr (.inl ⟨rfl, hx, h⟩)))
    · cases hs : s.sync with
      | some c =>
        simp only [hostMove, atTime_sync, hs] at h
        exact .inr (.inr (.inr (.inr (.inr ⟨rfl, by simp, h⟩))))
      | none =>
        cases hh : s.host with
        | nil => simp [agentTime, hostTime, hs, hh] at ha
        | cons x rest =>
          simp only [hostMove, atTime_sync, hs, atTime_host, hh] at h
          cases hd : decodeHost x.word with
          | error e => simp [hd] at h
          | ok i =>
            simp only [hd] at h
            refine .inr (.inr (.inr (.inr (.inl ⟨x, rest, i, rfl, rfl, rfl, hd, ?_⟩))))
            simpa [hs] using h

end Sys2Proof.Machine
end

