-- ==== Sys2Proof/Tests/Slice0.lean ====
section
/-!
SUPPORT. The model's own tests: ill-formed terms, words written out from the encoding tables of spec/30_encoding.md,
single steps whose expected values stand in spec/95_test_vectors.md or in the examples of the rules, and for every
statement with hypotheses a state and operands that meet them.
-/

namespace Sys2Proof.Tests

open Sys2Proof Sys2Proof.Machine

/-! ### Helpers -/

/-- The next state of an outcome. -/
def after (r : StepResult) : Option State :=
  match r with
  | .next s => some s
  | .fault _ => none
  | .refused _ => none

/-- The result a step hands to the host. -/
def resultOf (r : StepResult) : Option Result := (after r).map (fun s => s.out.result)

/-- The status a step leaves. -/
def statusOf (r : StepResult) : Option DriverStatus := (after r).map (fun s => s.status)

/-- The state after reset, started and then brought to the status `st`. -/
def inStatus (st : DriverStatus) : State := { State.reset with status := st, irqEn := true }

/-- A core receiving its start bit, the reference edge at 60000. -/
def startBit : State := { inStatus .responseStartBit with rxTs := 60000 }

/-- A core that has received no bit yet, the reference edge at 60500. -/
def receiving : State := { inStatus .responseReceiving with rxTs := 60500 }

/-- A core that waits for the stop bit of `0xC0193C80`. -/
def atStopBit : State :=
  { inStatus .responseReceiving with rxTs := 92500, bitIdx := 32#6, rxShift := 0xC0193C80#32 }

/-- A core whose receive of `f` is complete. -/
def received (f : Frame) : State := { inStatus .responseReady with bitIdx := 32#6, rxShift := f, cbEn := true }

/-- A core whose receive has failed by `cause`. -/
def failed (cause : PendCause) : State := { inStatus .responseInvalid with pendCause := cause, rxShift := 6#32 }

/-- A core that sends `0x80190000` since 1000 and drives half period `k` next, at its instant. -/
def sending (k : Nat) : State :=
  { inStatus .requestSending with
    txFrame := 0x80190000#32, txT0 := 1000, txIdx := BitVec.ofNat 7 k, now := 1000 + 500 * k,
    lineOut := if k = 0 then .idle else halfLevel 0x80190000#32 (k - 1) }

/-- A core that waits for a response since 35000, at the time `t`. -/
def waiting (t : Nat) : State := { inStatus .responseWaiting with rxTs := 35000, now := t }

/-- `s` with its host blocked in a call of `kind` since 1000. -/
def blocked (kind : SyncKind) (s : State) : State := { s with sync := some { kind := kind, t0 := 1000 } }

/-- `s` with a bound of `T_SYNC_TIMEOUT` = 5000. -/
def bounded (s : State) : State := { s with cfg := { s.cfg with tSyncTimeout := some 5000 } }

/-- `s` as a slave. -/
def slave (s : State) : State := { s with cfg := { s.cfg with role := .slave } }

/-! ### Ill-formed terms are refused -/

theorem test_wf_build_type : WellFormed (.buildRequest 65536 0 0) = false := by decide
theorem test_wf_build_id : WellFormed (.buildRequest 0 65536 0) = false := by decide
theorem test_wf_build_data : WellFormed (.buildResponse 0 0 4294967296) = false := by decide
theorem test_wf_build_largest : WellFormed (.buildResponse 65535 65535 4294967295) = true := by decide
theorem test_wf_rational : WellFormed (.temperatureToData (-9223372036854775809) 4294967296) = true := by decide

/-! ### Decoding: selectors of R70, frames of R60 and R61, operand bytes of log entry 4 -/

theorem test_decode_begin : decode (.host (.cmd [0x00#8, 0x01#8])) = .ok (.beginOp true) := by decide
theorem test_decode_end : decode (.host (.cmd [0x01#8])) = .ok .endOp := by decide
theorem test_decode_isReady : decode (.host (.cmd [0x02#8])) = .ok .isReady := by decide
theorem test_decode_sendRequest :
    decode (.host (.cmd [0x03#8, 0x80#8, 0x3C#8, 0x19#8, 0xC0#8])) = .ok (.sendRequest 0xC0193C80#32) := by decide
theorem test_decode_sendRequestAsync :
    decode (.host (.cmd [0x04#8, 0x80#8, 0x3C#8, 0x19#8, 0xC0#8])) = .ok (.sendRequestAsync 0xC0193C80#32) := by decide
theorem test_decode_sendResponse :
    decode (.host (.cmd [0x05#8, 0x80#8, 0x3C#8, 0x19#8, 0xC0#8])) = .ok (.sendResponse 0xC0193C80#32) := by decide
theorem test_decode_process : decode (.host (.cmd [0x06#8])) = .ok .process := by decide
theorem test_decode_getLastResponse : decode (.host (.cmd [0x07#8])) = .ok .getLastResponse := by decide
theorem test_decode_getLastResponseStatus : decode (.host (.cmd [0x08#8])) = .ok .getLastResponseStatus := by decide
theorem test_decode_buildRequest :
    decode (.host (.cmd [0x10#8, 0x09#8, 0x00#8, 0x19#8, 0x01#8, 0x80#8, 0x3C#8, 0x01#8, 0x00#8])) = .ok (.buildRequest 9 0x119 0x13C80) := by decide
theorem test_decode_buildResponse :
    decode (.host (.cmd [0x11#8, 0x04#8, 0x00#8, 0x19#8, 0x00#8, 0x80#8, 0x3C#8, 0x00#8, 0x00#8])) = .ok (.buildResponse 4 25 0x3C80) := by decide
theorem test_decode_parity :
    decode (.host (.cmd [0x12#8, 0x80#8, 0x3C#8, 0x19#8, 0xC0#8])) = .ok (.parity 0xC0193C80#32) := by decide
theorem test_decode_getMessageType :
    decode (.host (.cmd [0x13#8, 0x80#8, 0x3C#8, 0x19#8, 0xC0#8])) = .ok (.getMessageType 0xC0193C80#32) := by decide
theorem test_decode_getDataID :
    decode (.host (.cmd [0x14#8, 0x80#8, 0x3C#8, 0x19#8, 0xC0#8])) = .ok (.getDataID 0xC0193C80#32) := by decide
theorem test_decode_isValidRequest :
    decode (.host (.cmd [0x15#8, 0x80#8, 0x3C#8, 0x19#8, 0xC0#8])) = .ok (.isValidRequest 0xC0193C80#32) := by decide
theorem test_decode_isValidResponse :
    decode (.host (.cmd [0x16#8, 0x80#8, 0x3C#8, 0x19#8, 0xC0#8])) = .ok (.isValidResponse 0xC0193C80#32) := by decide
theorem test_decode_getUInt :
    decode (.host (.cmd [0x17#8, 0x80#8, 0x3C#8, 0x19#8, 0xC0#8])) = .ok (.getUInt 0xC0193C80#32) := by decide
theorem test_decode_getFloat :
    decode (.host (.cmd [0x18#8, 0x80#8, 0x3C#8, 0x19#8, 0xC0#8])) = .ok (.getFloat 0xC0193C80#32) := by decide
theorem test_decode_temperatureToData :
    decode (.host (.realCmd 0x19#8 3602879701896397 36028797018963967)) =
      .ok (.temperatureToData 3602879701896397 36028797018963967) := by decide
theorem test_temperature_without_a_rational : decode (.host (.cmd [0x19#8])) = .error .wrongOperandKind := by decide
theorem test_rational_elsewhere : decode (.host (.realCmd 0x18#8 1 2)) = .error .wrongOperandKind := by decide
theorem test_table_temperature : decodeTableWord 8 0x19 = some (.temperatureToData 0 0) := by decide
theorem test_decode_isFault :
    decode (.host (.cmd [0x1A#8, 0x80#8, 0x3C#8, 0x19#8, 0xC0#8])) = .ok (.isFault 0xC0193C80#32) := by decide
theorem test_decode_isCentralHeatingActive :
    decode (.host (.cmd [0x1B#8, 0x80#8, 0x3C#8, 0x19#8, 0xC0#8])) = .ok (.isCentralHeatingActive 0xC0193C80#32) := by decide
theorem test_decode_isHotWaterActive :
    decode (.host (.cmd [0x1C#8, 0x80#8, 0x3C#8, 0x19#8, 0xC0#8])) = .ok (.isHotWaterActive 0xC0193C80#32) := by decide
theorem test_decode_isFlameOn :
    decode (.host (.cmd [0x1D#8, 0x80#8, 0x3C#8, 0x19#8, 0xC0#8])) = .ok (.isFlameOn 0xC0193C80#32) := by decide
theorem test_decode_isCoolingActive :
    decode (.host (.cmd [0x1E#8, 0x80#8, 0x3C#8, 0x19#8, 0xC0#8])) = .ok (.isCoolingActive 0xC0193C80#32) := by decide
theorem test_decode_isDiagnostic :
    decode (.host (.cmd [0x1F#8, 0x80#8, 0x3C#8, 0x19#8, 0xC0#8])) = .ok (.isDiagnostic 0xC0193C80#32) := by decide
theorem test_decode_frameReadData :
    decode (.host (.frame32 [0x80#8, 0x3C#8, 0x19#8, 0x85#8])) = .ok (.frameReadData true 5#4 25#8 0x3C80#16) := by decide
theorem test_decode_frameWriteData :
    decode (.host (.frame32 [0x80#8, 0x3C#8, 0x19#8, 0x95#8])) = .ok (.frameWriteData true 5#4 25#8 0x3C80#16) := by decide
theorem test_decode_frameInvalidData :
    decode (.host (.frame32 [0x80#8, 0x3C#8, 0x19#8, 0xA5#8])) = .ok (.frameInvalidData true 5#4 25#8 0x3C80#16) := by decide
theorem test_decode_frameReserved :
    decode (.host (.frame32 [0x80#8, 0x3C#8, 0x19#8, 0xB5#8])) = .ok (.frameReserved true 5#4 25#8 0x3C80#16) := by decide
theorem test_decode_frameReadAck :
    decode (.host (.frame32 [0x80#8, 0x3C#8, 0x19#8, 0xC5#8])) = .ok (.frameReadAck true 5#4 25#8 0x3C80#16) := by decide
theorem test_decode_frameWriteAck :
    decode (.host (.frame32 [0x80#8, 0x3C#8, 0x19#8, 0xD5#8])) = .ok (.frameWriteAck true 5#4 25#8 0x3C80#16) := by decide
theorem test_decode_frameDataInvalid :
    decode (.host (.frame32 [0x80#8, 0x3C#8, 0x19#8, 0xE5#8])) = .ok (.frameDataInvalid true 5#4 25#8 0x3C80#16) := by decide
theorem test_decode_frameUnknownDataId :
    decode (.host (.frame32 [0x80#8, 0x3C#8, 0x19#8, 0xF5#8])) = .ok (.frameUnknownDataId true 5#4 25#8 0x3C80#16) := by decide
theorem test_decode_edge : decode (.signal (.edge 100 .active)) = .ok (.edge 100 .active) := by decide
theorem test_decode_txHalf : decode (.signal .txHalf) = .ok .txHalf := by decide
theorem test_decode_txHalfCompletion : decode (.signal .txHalfCompletion) = .ok .txHalfCompletion := by decide
theorem test_decode_wdg : decode (.signal .wdg) = .ok .wdg := by decide
theorem test_decode_buildSetBoilerStatusRequest :
    decode (.host (.accessor (.buildSetBoilerStatusRequest true false false true false))) =
      .ok (.buildSetBoilerStatusRequest true false false true false) := by decide
theorem test_decode_setBoilerStatus :
    decode (.host (.accessor (.setBoilerStatus true false false false true))) =
      .ok (.setBoilerStatus true false false false true) := by decide
theorem test_decode_getBoilerTemperature :
    decode (.host (.accessor .getBoilerTemperature)) = .ok .getBoilerTemperature := by decide
theorem test_reserved_selector : decode (.host (.cmd [0x09#8])) = .error .reservedSelector := by decide
theorem test_wide_selector : decode (.host (.cmd [0x20#8])) = .error .selectorTooWide := by decide
theorem test_wrong_length : decode (.host (.cmd [0x06#8, 0x00#8])) = .error .wrongLength := by decide
theorem test_begin_operand : decode (.host (.cmd [0x00#8, 0x02#8])) = .error .operandOutOfRange := by decide
theorem test_table_process : decodeTableWord 8 0x06 = some .process := by decide
theorem test_table_frame : decodeTableWord 32 0xC0193C80 = some (.frameReadAck true 0#4 25#8 0x3C80#16) := by decide

/-! ### The host runs a placed word as the first step after reset -/

theorem test_fetch_begin :
    after (step (State.reset.withFetchWord 16 0x0100)) =
      some { State.reset with status := .ready, irqEn := true, cbEn := true } := by decide
theorem test_fetch_frame :
    step (State.reset.withFetchWord 32 0xC0193C80) =
      exec (.frameReadAck true 0#4 25#8 0x3C80#16) State.reset := rfl

/-! ### Codec operations (95_test_vectors.md 2.1 to 2.6) -/

theorem test_buildRequest :
    resultOf (exec (.buildRequest 0 25 0) State.reset) = some (.frame 0x80190000#32) := by decide +kernel
theorem test_buildRequest_truncates :
    resultOf (exec (.buildRequest 9 0x119 0x13C80) State.reset) = some (.frame 0x90193C80#32) := by decide +kernel
theorem test_buildResponse :
    resultOf (exec (.buildResponse 7 99 0) State.reset) = some (.frame 0xF0630000#32) := by decide +kernel
theorem test_buildResponse_even :
    resultOf (exec (.buildResponse 4 25 0xD800) State.reset) = some (.frame 0x4019D800#32) := by decide +kernel
theorem test_parity_odd : resultOf (exec (.parity 0x00190000#32) State.reset) = some (.bool true) := rfl
theorem test_parity_even : resultOf (exec (.parity 0x0F000000#32) State.reset) = some (.bool false) := rfl
theorem test_getMessageType :
    resultOf (exec (.getMessageType 0xC0193C80#32) State.reset) = some (.messageType .readAck) := rfl
theorem test_getMessageType_odd :
    resultOf (exec (.getMessageType 0x70000000#32) State.reset) = some (.messageType .unknownDataId) := rfl
theorem test_getDataID : resultOf (exec (.getDataID 0xC0193C80#32) State.reset) = some (.dataId 25#8) := rfl
theorem test_getUInt : resultOf (exec (.getUInt 0xC0193C80#32) State.reset) = some (.u16 15488#16) := rfl
theorem test_isValidRequest : resultOf (exec (.isValidRequest 0x30000000#32) State.reset) = some (.bool true) := rfl
theorem test_isValidRequest_ack :
    resultOf (exec (.isValidRequest 0xC0193C80#32) State.reset) = some (.bool false) := rfl
theorem test_isValidResponse : resultOf (exec (.isValidResponse 0xE0190000#32) State.reset) = some (.bool true) := rfl
theorem test_isValidResponse_odd :
    resultOf (exec (.isValidResponse 0x40193C80#32) State.reset) = some (.bool false) := rfl
theorem test_getFloat : resultOf (exec (.getFloat 0xC0193C80#32) State.reset) = some (.real (60 * 256 + 128)) := rfl
theorem test_getFloat_negative : resultOf (exec (.getFloat 0x4000FF80#32) State.reset) = some (.real (-128)) := rfl
theorem test_temperature_tie :
    resultOf (exec (.temperatureToData (-1) 511) State.reset) = some (.u16 0xFFFF#16) := rfl
theorem test_temperature_clamp : resultOf (exec (.temperatureToData 200 0) State.reset) = some (.u16 0x7FFF#16) := rfl
theorem test_isFault : resultOf (exec (.isFault 0xC000010B#32) State.reset) = some (.bool true) := rfl
theorem test_isCentralHeatingActive :
    resultOf (exec (.isCentralHeatingActive 0xD0000302#32) State.reset) = some (.bool true) := rfl
theorem test_isHotWaterActive :
    resultOf (exec (.isHotWaterActive 0xD0000302#32) State.reset) = some (.bool false) := rfl
theorem test_isFlameOn : resultOf (exec (.isFlameOn 0x00005F00#32) State.reset) = some (.bool true) := rfl
theorem test_isCoolingActive : resultOf (exec (.isCoolingActive 0x00005F00#32) State.reset) = some (.bool true) := rfl
theorem test_isDiagnostic : resultOf (exec (.isDiagnostic 0x00005F00#32) State.reset) = some (.bool true) := rfl
theorem test_isDiagnostic_bit5 : resultOf (exec (.isDiagnostic 0x00002000#32) State.reset) = some (.bool false) := rfl
theorem test_isFlameOn_shift0 :
    resultOf (exec (.isFlameOn 0xC000010B#32)
      { State.reset with cfg := { Config.default with statusPredShift := 0 } }) = some (.bool true) := by decide

/-! ### Frame words (2.3) -/

theorem test_frameReadData :
    resultOf (exec (.frameReadData true 0#4 25#8 0#16) State.reset) = some (.frameView
      { parityOdd := false, messageType := .readData, family := .requester, spare := 0#4, id := 25#8, data := 0#16,
        validRequest := true, validResponse := false }) := by decide
theorem test_frameReadData_spare :
    resultOf (exec (.frameReadData false 15#4 0#8 0#16) State.reset) = some (.frameView
      { parityOdd := false, messageType := .readData, family := .requester, spare := 15#4, id := 0#8, data := 0#16,
        validRequest := true, validResponse := false }) := by decide
theorem test_frameWriteData :
    resultOf (exec (.frameWriteData false 0#4 0#8 0x0100#16) State.reset) = some (.frameView
      { parityOdd := false, messageType := .writeData, family := .requester, spare := 0#4, id := 0#8, data := 0x0100#16,
        validRequest := true, validResponse := false }) := by decide
theorem test_frameInvalidData :
    resultOf (exec (.frameInvalidData true 0#4 0#8 0#16) State.reset) = some (.frameView
      { parityOdd := false, messageType := .invalidData, family := .requester, spare := 0#4, id := 0#8, data := 0#16,
        validRequest := true, validResponse := false }) := by decide
theorem test_frameReserved :
    resultOf (exec (.frameReserved false 0#4 0#8 0#16) State.reset) = some (.frameView
      { parityOdd := false, messageType := .reserved, family := .requester, spare := 0#4, id := 0#8, data := 0#16,
        validRequest := true, validResponse := false }) := by decide
theorem test_frameReadAck :
    resultOf (exec (.frameReadAck false 0#4 25#8 0x3C80#16) State.reset) = some (.frameView
      { parityOdd := true, messageType := .readAck, family := .responder, spare := 0#4, id := 25#8, data := 0x3C80#16,
        validRequest := false, validResponse := false }) := by decide
theorem test_frameWriteAck :
    resultOf (exec (.frameWriteAck true 0#4 1#8 0x3C00#16) State.reset) = some (.frameView
      { parityOdd := false, messageType := .writeAck, family := .responder, spare := 0#4, id := 1#8, data := 0x3C00#16,
        validRequest := false, validResponse := true }) := by decide
theorem test_frameDataInvalid :
    resultOf (exec (.frameDataInvalid true 0#4 25#8 0#16) State.reset) = some (.frameView
      { parityOdd := false, messageType := .dataInvalid, family := .responder, spare := 0#4, id := 25#8, data := 0#16,
        validRequest := false, validResponse := true }) := by decide
theorem test_frameUnknownDataId :
    resultOf (exec (.frameUnknownDataId true 0#4 99#8 0#16) State.reset) = some (.frameView
      { parityOdd := false, messageType := .unknownDataId, family := .responder, spare := 0#4, id := 99#8, data := 0#16,
        validRequest := false, validResponse := true }) := by decide

/-! ### Protocol operations (2.11, 2.12) -/

theorem test_begin :
    after (exec (.beginOp false) State.reset) =
      some { State.reset with status := .ready, irqEn := true, cbEn := false } := by decide
theorem test_begin_again : after (exec (.beginOp true) (inStatus .ready)) =
      some (inStatus .ready) := by decide
theorem test_end :
    after (exec (.endOp) (sending 5)) =
      some { sending 5 with status := .notInitialized, irqEn := false, txIdx := 0#7, lineOut := .idle } := by decide
theorem test_isReady :
    after (exec (.isReady) (waiting 1035000)) =
      some { waiting 1035000 with out := Outputs.returning (.bool false) } := by decide
theorem test_isReady_watchdog :
    after (exec (.isReady) (waiting 1035001)) =
      some { waiting 1035001 with
        status := .responseInvalid, pendCause := .timeout, rxTs := 1035001,
        out := { result := .bool false, callback := none, reports := [.timeout] } } := by decide
theorem test_sendRequest :
    after (exec (.sendRequest 0x80190000#32) (inStatus .ready)) =
      some { inStatus .ready with
        status := .requestSending, txFrame := 0x80190000#32, sync := some { kind := .frame, t0 := 0 } } := by decide
theorem test_sendRequest_rejected :
    resultOf (exec (.sendRequest 0x80190000#32) State.reset) = some (.frame 0#32) := rfl
theorem test_sendRequestAsync :
    after (exec (.sendRequestAsync 0x80190000#32) { inStatus .ready with now := 1000 }) =
      some { inStatus .ready with
        now := 1000, status := .requestSending, txFrame := 0x80190000#32, txT0 := 1000,
        out := Outputs.returning (.bool true) } := by decide
theorem test_sendRequestAsync_rejected :
    resultOf (exec (.sendRequestAsync 0x80190000#32) State.reset) = some (.bool false) := rfl
theorem test_sendResponse :
    after (exec (.sendResponse 0xC0193C80#32) (inStatus .ready)) =
      some { inStatus .ready with
        status := .requestSending, txFrame := 0xC0193C80#32, txKind := .response,
        out := Outputs.returning (.bool true) } := by decide
theorem test_process_success :
    after (exec (.process) (received 0xC0193C80#32)) =
      some { received 0xC0193C80#32 with
        status := .ready, lastResponse := 0xC0193C80#32, respStatus := .success,
        out := { result := .none, callback := some (0xC0193C80#32, .success), reports := [] } } := by decide
theorem test_process_odd :
    after (exec (.process) (received 0x40193C80#32)) =
      some { received 0x40193C80#32 with
        status := .ready, lastResponse := 0x40193C80#32, respStatus := .invalid,
        out := { result := .none, callback := some (0x40193C80#32, .invalid), reports := [.invalidParity] } } := by decide
theorem test_process_late :
    after (exec (.process) (waiting 2000000)) =
      some { waiting 2000000 with
        status := .ready, pendCause := .timeout, rxTs := 1035001, respStatus := .timeout,
        out := { result := .none, callback := none, reports := [.timeout] } } := by decide
theorem test_getLastResponse :
    resultOf (exec (.getLastResponse) { State.reset with lastResponse := 0xC0193C80#32 }) = some (.frame 0xC0193C80#32) := rfl
theorem test_getLastResponseStatus :
    resultOf (exec (.getLastResponseStatus) State.reset) = some (.responseStatus .none) := rfl

/-! ### Event steps (2.9 to 2.11) -/

theorem test_edge_start_bit :
    after (exec (.edge 60500 .idle) startBit) =
      some { startBit with status := .responseReceiving, rxTs := 60500 } := by decide
theorem test_edge_start_bit_wrong :
    after (exec (.edge 60500 .active) startBit) =
      some { startBit with
        status := .responseInvalid, rxTs := 60500, out := Outputs.reporting .invalidFraming } := by decide
theorem test_edge_data_bit :
    after (exec (.edge 61500 .idle) receiving) =
      some { receiving with bitIdx := 1#6, rxShift := 1#32, rxTs := 61500 } := by decide
theorem test_edge_past_the_bound :
    after (exec (.edge 1035001 .active) (waiting 0)) =
      some { waiting 0 with
        status := .responseInvalid, pendCause := .timeout, rxTs := 1035001, out := Outputs.reporting .timeout } := by decide
theorem test_edge_stop_bit :
    after (exec (.edge 93500 .idle) atStopBit) =
      some { atStopBit with status := .responseReady, rxTs := 93500 } := by decide
theorem test_txHalf_start :
    after (exec (.txHalf) (sending 0)) =
      some { sending 0 with lineOut := .active, txIdx := 1#7 } := by decide
theorem test_txHalf_last :
    after (exec (.txHalf) (sending 67)) =
      some { sending 67 with lineOut := .idle, txIdx := 68#7 } := by decide
theorem test_txHalfCompletion :
    after (exec (.txHalfCompletion) (sending 68)) =
      some { sending 68 with status := .responseWaiting, txIdx := 0#7, rxTs := 35000 } := by decide
theorem test_txHalfCompletion_response :
    after (exec (.txHalfCompletion) { sending 68 with txKind := .response }) =
      some { sending 68 with txKind := .response, status := .ready, txIdx := 0#7, rxTs := 35000 } := by decide
theorem test_wdg :
    after (exec (.wdg) (waiting 1035001)) =
      some { waiting 1035001 with
        status := .responseInvalid, pendCause := .timeout, rxTs := 1035001, out := Outputs.reporting .timeout } := by decide
theorem test_wdg_in_bound : after (exec (.wdg) (waiting 1035000)) =
      some (waiting 1035000) := by decide

/-! ### Pseudo-operations (2.7, R181, R182) -/

theorem test_status_request :
    resultOf (exec (.buildSetBoilerStatusRequest true true false false false) State.reset) = some (.frame 0x90000300#32) := by decide +kernel
theorem test_status_request_all :
    resultOf (exec (.buildSetBoilerStatusRequest true true true true true) State.reset) = some (.frame 0x10001F00#32) := by decide +kernel
theorem test_setBoilerStatus :
    after (exec (.setBoilerStatus true false false false false) (inStatus .ready)) =
      some { inStatus .ready with
        status := .requestSending, txFrame := 0x10000100#32, sync := some { kind := .frame, t0 := 0 } } := by decide +kernel
theorem test_getBoilerTemperature :
    after (exec (.getBoilerTemperature) (inStatus .ready)) =
      some { inStatus .ready with
        status := .requestSending, txFrame := 0x80190000#32, sync := some { kind := .temperature, t0 := 0 } } := by decide +kernel
theorem test_getBoilerTemperature_rejected :
    resultOf (exec (.getBoilerTemperature) State.reset) = some (.real 0) := rfl
theorem test_poll_temperature :
    resultOf (pollSync (blocked .temperature (received 0xC0193C80#32))) = some (.real 15488) := by decide

theorem test_late_poll_gets_the_frame :
    after (step { bounded (blocked .frame (received 0xC0193C80#32)) with polls := [90000], cbEn := false }) =
      some { bounded (received 0xC0193C80#32) with
        status := .ready, respStatus := .success, lastResponse := 0xC0193C80#32, now := 90000, cbEn := false,
        out := Outputs.returning (.frame 0xC0193C80#32) } := by decide +kernel

/-! ### The clock (R43, R142, 95_test_vectors.md 2.8) -/

theorem test_elapsed_across_wrap :
    elapsed Config.default 0xF4 0xFFFFFF00 = 500 ∧
    intervalClass Config.default (elapsed Config.default 0xF4 0xFFFFFF00) = .half := by decide
theorem test_elapsed_narrow_clock : elapsed { Config.default with wTime := 24 } 0x1F4 0xFFFF00 = 756 := by decide

/-! ### Codes of the enumerations (R68, R69, R77) and the pins (R41, R42) -/

theorem test_response_status_codes :
    [ResponseStatus.none, .success, .invalid, .timeout].map responseStatusCode = [0, 1, 2, 3] := by decide
theorem test_driver_status_codes :
    [DriverStatus.notInitialized, .ready, .delay, .requestSending, .responseWaiting, .responseStartBit,
      .responseReceiving, .responseReady, .responseInvalid].map driverStatusCode = [0, 1, 2, 3, 4, 5, 6, 7, 8] := by
  decide
theorem test_one_bit_codes :
    (levelCode .idle, levelCode .active, pendCauseCode .framing, pendCauseCode .timeout, txKindCode .request,
      txKindCode .response, roleCode .master, roleCode .slave) = (0, 1, 0, 1, 0, 1, 0, 1) := by decide
theorem test_pins_follow_polarity :
    ∀ (pol : Polarity) (high : Bool), pinDriven pol (lineRead pol high) = high := by
  intro pol high; cases pol <;> cases high <;> rfl

/-- R42 and R133: the first half of the start bit is `ACTIVE`, the second `IDLE`; an active-low pin is low, then
high. -/
theorem test_output_pin :
    [Polarity.activeHigh, .activeLow].map (fun pol => [1, 2].map (fun k =>
      outputPin { sending k with cfg := { Config.default with polOut := pol } })) =
      [[true, false], [false, true]] := by decide
theorem test_output_pin_begin :
    (after (exec (.beginOp true) (State.resetWith { Config.default with polOut := .activeLow }))).map outputPin =
      some true := by decide

/-! ### A state and operands that meet the hypotheses of each statement -/

theorem witness_ResetMeetsTheInvariants :
    Config.default.Valid := by decide
theorem witness_StepsKeepTheStateInvariants :
    (∃ s t, s.Inv ∧ exec .process s = .next t) ∧ ∃ s t, s.Inv ∧ step s = .next t :=
  ⟨⟨received 0xC0193C80#32, _, by constructor <;> decide, rfl⟩, ⟨waiting 35000, _, by constructor <;> decide, rfl⟩⟩
theorem witness_StepsKeepTheTimestampsInTheirWidth :
    (∃ i s t, s.WidthInv ∧ exec i s = .next t) ∧ ∃ s t, s.WidthInv ∧ step s = .next t :=
  ⟨⟨.edge 4295027296 .active, waiting 35000, _, by constructor <;> decide, rfl⟩,
    ⟨waiting 35000, _, by constructor <;> decide, rfl⟩⟩
theorem witness_StepsKeepTheLineAtTheWaveform :
    ∃ s t, s.status = .requestSending ∧ s.txIdx = 68#7 ∧ s.Inv ∧ s.WaveformInv ∧ step s = .next t :=
  ⟨sending 68, _, rfl, rfl, by constructor <;> decide, fun _ => rfl, rfl⟩
theorem witness_StepsKeepEveryAgentOnTime_watched :
    ∃ s t, s.Inv ∧ s.TimingInv ∧ elapsed s.cfg (clock s) s.rxTs = s.cfg.tTimeout ∧ step s = .next t :=
  ⟨waiting 1035000, _, by constructor <;> decide, by constructor <;> decide, by decide, rfl⟩
theorem witness_StepsKeepEveryAgentOnTime_sending :
    ∃ s t, s.Inv ∧ s.TimingInv ∧ s.status = .requestSending ∧ step s = .next t :=
  ⟨sending 67, _, by constructor <;> decide, by constructor <;> decide, rfl, rfl⟩
theorem witness_StepsKeepABlockedHostInAnExchange :
    ∃ s t, s.sync ≠ none ∧ s.SyncInv ∧ step s = .next t :=
  ⟨blocked .frame (sending 3), _, by decide, by constructor <;> decide, rfl⟩
theorem witness_ParametersStayAndTimeNeverRunsBack :
    (∃ i s t, exec i s = .next t) ∧ ∃ s t, step s = .next t :=
  ⟨⟨.wdg, waiting 1035001, _, rfl⟩, ⟨waiting 35000, _, rfl⟩⟩
theorem witness_OnlyProcessWritesTheResults :
    (∃ i s t, i ≠ .process ∧ exec i s = .next t) ∧ (∃ s t, exec .process s = .next t) ∧
    (∃ s t, s.sync ≠ none ∧ pollSync s = .next t) ∧ ∃ s t, s.respStatus ≠ .none ∧ step s = .next t :=
  ⟨⟨.endOp, sending 5, _, by decide, rfl⟩, ⟨received 0xC0193C80#32, _, rfl⟩,
    ⟨blocked .frame (received 0xC0193C80#32), _, by decide, rfl⟩,
    ⟨{ waiting 35000 with respStatus := .timeout }, _, by decide, rfl⟩⟩
theorem witness_OnlyBeginEndAndTheEngineDriveTheLine :
    (∃ i s t, (∀ cb, i ≠ .beginOp cb) ∧ i ≠ .endOp ∧ i ≠ .txHalf ∧ i ≠ .txHalfCompletion ∧ exec i s = .next t) ∧
    (∃ s t, s.sync ≠ none ∧ pollSync s = .next t) ∧
    (outputPin (sending 1) = true ∧ (sending 1).lineOut = .active) ∧
    ∃ s : State, s.Inv ∧ s.status ≠ .requestSending :=
  ⟨⟨.process, received 0xC0193C80#32, _, by simp, by decide, by decide, by decide, rfl⟩,
    ⟨blocked .frame (failed .timeout), _, by decide, rfl⟩, by decide,
    ⟨State.reset, by constructor <;> decide, by decide⟩⟩
theorem witness_TransmissionInFlightKeepsItsFrame :
    ∃ i s t, s.status = .requestSending ∧ exec i s = .next t :=
  ⟨.sendRequestAsync 0xC0193C80#32, sending 5, _, rfl, rfl⟩
theorem witness_EdgeWritesOnlyTheReceiveElements :
    ∃ u, exec (.edge 61500 .idle) receiving = .next u := ⟨_, rfl⟩
theorem witness_StatusFollowsTheTransitionTable :
    (∃ s t, watchdogDue (stepTime .wdg s) s = true ∧ exec .wdg s = .next t) ∧
    ∃ s t, watchdogDue (stepTime (.edge 1035000 .idle) s) s = false ∧ exec (.edge 1035000 .idle) s = .next t :=
  ⟨⟨waiting 1035001, _, by decide, rfl⟩, ⟨waiting 0, _, by decide, rfl⟩⟩
theorem witness_NoRowMeansNoChange :
    (inStatus .ready).status ≠ .delay ∧ watchdogDue (stepTime .process (inStatus .ready)) (inStatus .ready) = false ∧
    (∀ a, hasRow .process (inStatus .ready).status a = false) ∧ (Instr.process = .endOp → (inStatus .ready).Inv) :=
  ⟨by decide, by decide, fun a => by cases a <;> rfl, fun h => by cases h⟩
theorem witness_NoRowMeansNoChange_end :
    State.reset.status ≠ .delay ∧ watchdogDue (stepTime .endOp State.reset) State.reset = false ∧
    (∀ a, hasRow .endOp State.reset.status a = false) ∧ (Instr.endOp = .endOp → State.reset.Inv) :=
  ⟨by decide, by decide, fun a => by cases a <;> rfl, fun _ => by constructor <;> decide⟩
theorem witness_DelayHasNoStepButEnd :
    (inStatus .delay).status = .delay ∧ isPure .wdg = false ∧ Instr.wdg ≠ .endOp ∧ (blocked .frame (inStatus .delay)).sync ≠ none := by decide
theorem witness_PureStepsReadOnlyTheirOperands :
    isPure (.isFault 0xC000010B#32) = true ∧ State.reset.cfg.statusPredShift = Config.default.statusPredShift ∧
    State.reset.cfg.idStatus = Config.default.idStatus := by decide
theorem witness_WatchdogActsBeforeEveryOperation :
    isProtocol .process = true ∧ watched (waiting 1035001).status = true ∧
    (waiting 1035001).cfg.tTimeout < elapsed Config.default (stepTime .process (waiting 1035001)) (waiting 1035001).rxTs := by decide
theorem witness_WatchdogActsBeforeEveryOperation_edge :
    (waiting 0).irqEn = true ∧ watched (waiting 0).status = true ∧
    (waiting 0).cfg.tTimeout < elapsed Config.default (stepTime (.edge 1035001 .active) (waiting 0)) (waiting 0).rxTs := by decide

/-- A core that sends half period 3 at 2500, with a transition of the line at `t` and a word of the host at `u`. -/
def busy (t u : Nat) (w : HostWord) : State :=
  { sending 3 with line := [{ time := t, pinHigh := true }], host := [{ time := u, word := w }] }

theorem witness_StepRunsTheDecodedHostWord :
    ∃ s h rest, s.sync = none ∧ s.host = h :: rest ∧ (∀ u ∈ watchdogTime s, max s.now h.time < u) ∧
      (∀ u ∈ lineTime s, max s.now h.time < u) ∧ (∀ u ∈ engineTime s, max s.now h.time < u) ∧
      decodeHost h.word = .ok .process :=
  ⟨{ busy 2500 2499 (.cmd [0x06#8]) with now := 2499 }, _, _, rfl, rfl, by decide, by decide, by decide, rfl⟩
theorem witness_StepRunsTheDecodedHostWord_refused :
    ∃ s h rest, s.sync = none ∧ s.host = h :: rest ∧ (∀ u ∈ watchdogTime s, max s.now h.time < u) ∧
      (∀ u ∈ lineTime s, max s.now h.time < u) ∧ (∀ u ∈ engineTime s, max s.now h.time < u) ∧
      decodeHost h.word = .error .reservedSelector :=
  ⟨{ busy 2500 2499 (.cmd [0x0F#8]) with now := 2499 }, _, _, rfl, rfl, by decide, by decide, by decide, rfl⟩

/-- A core waiting since 35000 with a transition of the line and a word of the host at the watchdog's instant. -/
def tied : State :=
  { waiting 35000 with line := [{ time := 1035001, pinHigh := true }],
                       host := [{ time := 1035001, word := .cmd [0x06#8] }] }

theorem witness_StepFollowsTheOrderOfAgents_watchdog :
    ∃ t ∈ watchdogTime tied, (∀ u ∈ lineTime tied, t ≤ u) ∧ (∀ u ∈ engineTime tied, t ≤ u) ∧
      (∀ u ∈ hostTime tied, t ≤ u) := ⟨1035001, by decide, by decide, by decide, by decide⟩
theorem witness_StepFollowsTheOrderOfAgents_line :
    ∃ s e rest, s.line = e :: rest ∧ (∀ u ∈ watchdogTime s, max s.now e.time < u) ∧
      (∀ u ∈ engineTime s, max s.now e.time ≤ u) ∧ (∀ u ∈ hostTime s, max s.now e.time ≤ u) :=
  ⟨busy 2500 2500 (.cmd [0x06#8]), _, _, rfl, by decide, by decide, by decide⟩
theorem witness_StepFollowsTheOrderOfAgents_engine :
    ∃ t ∈ engineTime (busy 2501 2500 (.cmd [0x06#8])),
      (∀ u ∈ watchdogTime (busy 2501 2500 (.cmd [0x06#8])), t < u) ∧
      (∀ u ∈ lineTime (busy 2501 2500 (.cmd [0x06#8])), t < u) ∧
      (∀ u ∈ hostTime (busy 2501 2500 (.cmd [0x06#8])), t ≤ u) := ⟨2500, by decide, by decide, by decide, by decide⟩
theorem witness_StepFollowsTheOrderOfAgents_poll :
    ∃ t ∈ hostTime (blocked .frame (received 0#32)), (blocked .frame (received 0#32)).sync ≠ none ∧
      (∀ u ∈ watchdogTime (blocked .frame (received 0#32)), t < u) ∧
      (∀ u ∈ lineTime (blocked .frame (received 0#32)), t < u) ∧
      (∀ u ∈ engineTime (blocked .frame (received 0#32)), t < u) := ⟨0, by decide, by decide, by decide, by decide, by decide⟩
theorem witness_BlockedHostPollsWhenItChooses_chosen :
    ∃ s p rest, s = { blocked .frame (sending 10) with polls := [5999, 7000], now := 5990 } ∧
      s.sync = some { kind := .frame, t0 := 1000 } ∧ s.polls = p :: rest ∧ (∀ u ∈ watchdogTime s, max s.now p < u) ∧
      (∀ u ∈ lineTime s, max s.now p < u) ∧ (∀ u ∈ engineTime s, max s.now p < u) :=
  ⟨{ blocked .frame (sending 10) with polls := [5999, 7000], now := 5990 }, _, _, rfl, rfl, rfl, by decide,
    by decide, by decide⟩
theorem witness_BlockedHostPollsWhenItChooses_ended :
    (blocked .frame (received 0#32)).sync = some { kind := .frame, t0 := 1000 } ∧
    (blocked .frame (received 0#32)).polls = [] ∧ (blocked .frame (received 0#32)).status = .responseReady ∧
    ∀ u ∈ lineTime (blocked .frame (received 0#32)), (blocked .frame (received 0#32)).now < u := by decide
theorem witness_BlockedHostPollsWhenItChooses_waits :
    (bounded (blocked .frame (sending 10))).sync = some { kind := .frame, t0 := 1000 } ∧
    (bounded (blocked .frame (sending 10))).polls = [] ∧
    (bounded (blocked .frame (sending 10))).status ≠ .responseReady ∧
    (bounded (blocked .frame (sending 10))).status ≠ .responseInvalid := by decide
theorem witness_FinalisingPollDoesNotDependOnItsTime :
    ∃ t, (received 0xC0193C80#32).status = .responseReady ∧
      pollSync (bounded (blocked .frame (received 0xC0193C80#32))) = .next t ∧
      (failed .timeout).status = .responseInvalid := ⟨_, rfl, rfl, rfl⟩
theorem witness_ElapsedIsTheTrueDifference :
    4294967040 ≤ 4294967540 ∧ 4294967540 - 4294967040 < 2 ^ Config.default.wTime := by decide
theorem witness_StepFollowsTheOrderOfAgents_idle :
    watchdogTime State.reset = none ∧ State.reset.line = [] ∧ engineTime State.reset = none ∧
    hostTime State.reset = none := by decide
theorem witness_WatchdogFiresOneMicrosecondPastTheBound :
    tied.TimingInv ∧ watched tied.status = true ∧
    (∀ u ∈ lineTime tied, tied.now + (tied.cfg.tTimeout + 1 - elapsed Config.default (clock tied) tied.rxTs) ≤ u) ∧
    (∀ u ∈ hostTime tied, tied.now + (tied.cfg.tTimeout + 1 - elapsed Config.default (clock tied) tied.rxTs) ≤ u) :=
  ⟨by constructor <;> decide, by decide, by decide, by decide⟩
theorem witness_DecodeReadsWhatEncodeWrites :
    WellFormed (.temperatureToData (-1) (2 ^ 70)) = true ∧ WellFormed (.buildRequest 65535 65535 4294967295) = true := by
  decide
theorem witness_EncodeWritesWhatDecodeRead :
    decode (.host (.frame32 [0xFF#8, 0xFF#8, 0xFF#8, 0xFF#8])) =
      .ok (.frameUnknownDataId true 15#4 255#8 0xFFFF#16) := by decide
theorem witness_ReservedSelectorsAreRejected :
    9 ≤ (0x0F#8).toNat ∧ (0x0F#8).toNat ≤ 15 ∧ 32 ≤ (0x20#8).toNat := by decide
theorem witness_ParityIsOddPopcount :
    31 < 32 := by decide
theorem witness_TemperatureRoundTripIsWithin512th :
    (-128 ≤ ((-128 : Int) : ℚ) / (((0 : Nat) : ℚ) + 1) ∧ ((-128 : Int) : ℚ) / (((0 : Nat) : ℚ) + 1) ≤ 32767 / 256) ∧
    (-128 ≤ ((32767 : Int) : ℚ) / (((255 : Nat) : ℚ) + 1) ∧ ((32767 : Int) : ℚ) / (((255 : Nat) : ℚ) + 1) ≤ 32767 / 256) ∧
    BitVec.ofNat 16 (0x40197FFF#32 : Frame).toNat = 0x7FFF#16 ∧
    ((32767 : Int) : ℚ) / (((255 : Nat) : ℚ) + 1) = ((32767 : Int) : ℚ) / 256 :=
  ⟨by norm_num, by norm_num, by decide, by norm_num⟩
theorem witness_FrameWordsAreRead :
    (Instr.frameReserved true 5#4 25#8 0#16, MessageType.reserved) ∈
      [(Instr.frameReadData true 5#4 25#8 0#16, MessageType.readData),
       (Instr.frameReserved true 5#4 25#8 0#16, MessageType.reserved)] := by decide
theorem witness_BeginStartsOnlyAStoppedCore :
    State.reset.status = .notInitialized ∧ (waiting 1035000).status ≠ .notInitialized ∧
    (waiting 1035000).status ≠ .delay ∧ watchdogDue (clock (waiting 1035000)) (waiting 1035000) = false := by decide
theorem witness_EndStopsTheCore :
    watchdogDue (clock (waiting 1035000)) (waiting 1035000) = false := by decide
theorem witness_QueriesReturnTheState :
    (waiting 1035000).status ≠ .delay ∧ watchdogDue (clock (waiting 1035000)) (waiting 1035000) = false := by decide
theorem witness_AsynchronousSendsAreAcceptedOnlyInReady :
    (inStatus .ready).status = .ready ∧ (waiting 1035000).status ≠ .ready ∧ (waiting 1035000).status ≠ .delay ∧
    watchdogDue (clock (waiting 1035000)) (waiting 1035000) = false := by decide
theorem witness_SynchronousSendStartsOrReturnsTheSentinel :
    (inStatus .ready).status = .ready ∧ (sending 0).status ≠ .ready ∧ (sending 0).status ≠ .delay ∧
    watchdogDue (clock (sending 0)) (sending 0) = false := by decide
theorem witness_PollsFinaliseAsProcess :
    (blocked .frame (received 0#32)).sync = some { kind := .frame, t0 := 1000 } ∧
    (blocked .frame (received 0#32)).status = .responseReady ∧
    (blocked .temperature (failed .framing)).sync = some { kind := .temperature, t0 := 1000 } ∧
    (blocked .temperature (failed .framing)).status = .responseInvalid := by decide
theorem witness_PollsGiveUpOrWait_expired :
    ∃ s, s = bounded (blocked .temperature { sending 10 with now := 6001 }) ∧
      s.sync = some { kind := .temperature, t0 := 1000 } ∧ s.status ≠ .responseReady ∧ s.status ≠ .responseInvalid ∧
      s.status ≠ .delay ∧ watchdogDue (clock s) s = false ∧ s.cfg.tSyncTimeout = some 5000 ∧
      5000 < elapsed s.cfg (clock s) 1000 :=
  ⟨_, rfl, rfl, by decide, by decide, by decide, by decide, rfl, by decide⟩
theorem witness_PollsGiveUpOrWait_waits :
    ∃ s, s = bounded (blocked .frame (sending 10)) ∧ s.sync = some { kind := .frame, t0 := 1000 } ∧
      s.status ≠ .responseReady ∧ s.status ≠ .responseInvalid ∧ s.status ≠ .delay ∧
      watchdogDue (clock s) s = false ∧ ∀ b, s.cfg.tSyncTimeout = some b → elapsed s.cfg (clock s) 1000 ≤ b :=
  ⟨_, rfl, rfl, by decide, by decide, by decide, by decide, fun b h => by
    have e : b = 5000 := (Option.some.inj h).symm
    subst e
    decide⟩
theorem witness_ProcessValidatesACompletedReceive :
    (received 0xC0193C80#32).status = .responseReady ∧
    (popcount (0xC0193C80#32 : Frame) % 2 = 0 ∧ (0xC0193C80#32 : Frame).getLsbD 30 = true ∧ State.reset.cfg.role = .master) ∧
    popcount (0x40193C80#32 : Frame) % 2 = 1 ∧
    (popcount (0x80190000#32 : Frame) % 2 = 0 ∧ (0x80190000#32 : Frame).getLsbD 30 = false) := by decide
theorem witness_ProcessRecordsAFailureOrDoesNothing :
    ((failed .timeout).status = .responseInvalid ∧ (failed .timeout).pendCause = .timeout) ∧
    ((failed .framing).status = .responseInvalid ∧ (failed .framing).pendCause = .framing) ∧
    ((waiting 1035000).status ≠ .responseReady ∧ (waiting 1035000).status ≠ .responseInvalid ∧
      (waiting 1035000).status ≠ .delay ∧ watchdogDue (clock (waiting 1035000)) (waiting 1035000) = false) := by decide
theorem witness_ProcessConsumesAReceiveOnce :
    ∃ t, exec .process (received 0xC0193C80#32) = .next t := ⟨_, rfl⟩
theorem witness_HalfPeriodsDriveTheBitCells :
    (sending 67).status = .requestSending ∧ (sending 67).txIdx.toNat ≤ 67 ∧ (sending 67).txIdx.toNat / 2 = 33 ∧
    (sending 64).txIdx.toNat / 2 = 32 ∧ (sending 2).txIdx.toNat / 2 = 1 := by decide
theorem witness_CompletionEndsTheTransmission :
    (sending 68).status = .requestSending ∧ (sending 68).txIdx = 68 := by decide
theorem witness_TransmissionTakes68HalfPeriods :
    (sending 0).cfg.Valid ∧ (sending 0).status = .requestSending ∧ (sending 0).txIdx = 0 ∧
    (sending 0).txT0 = clock (sending 0) := by decide
theorem witness_EdgesAreDroppedWhereNothingIsHeard :
    State.reset.irqEn = false ∧ State.reset.status ≠ .delay ∧ (sending 0).status = .requestSending ∧
    (received 0#32).status = .responseReady ∧ (failed .timeout).status = .responseInvalid := by decide
theorem witness_FirstEdgeStartsAReceive :
    (inStatus .ready).irqEn = true ∧ (slave (inStatus .ready)).status = .ready ∧
    (slave (inStatus .ready)).cfg.role = .slave ∧ (inStatus .ready).cfg.role = .master ∧
    (waiting 0).status = .responseWaiting ∧ elapsed Config.default 1035000 (waiting 0).rxTs = (waiting 0).cfg.tTimeout := by decide
theorem witness_StartBitIsCheckedAtItsMidBit :
    startBit.irqEn = true ∧ startBit.status = .responseStartBit ∧
    startBit.cfg.tShort = elapsed Config.default 60250 startBit.rxTs ∧ elapsed Config.default 60250 startBit.rxTs < startBit.cfg.tThresh ∧
    elapsed Config.default 60249 startBit.rxTs < startBit.cfg.tShort ∧ startBit.cfg.tThresh = elapsed Config.default 60750 startBit.rxTs ∧
    elapsed Config.default 60750 startBit.rxTs ≤ startBit.cfg.tTimeout := by decide
theorem witness_ReceivingSamplesOnFullIntervals :
    receiving.cfg.Valid ∧ receiving.irqEn = true ∧ receiving.status = .responseReceiving ∧
    (receiving.cfg.tShort = elapsed Config.default 60750 receiving.rxTs ∧ elapsed Config.default 61249 receiving.rxTs < receiving.cfg.tThresh) ∧
    elapsed Config.default 60749 receiving.rxTs < receiving.cfg.tShort ∧ receiving.cfg.tLong = elapsed Config.default 61750 receiving.rxTs ∧
    (receiving.cfg.tThresh = elapsed Config.default 61250 receiving.rxTs ∧ elapsed Config.default 61749 receiving.rxTs < receiving.cfg.tLong) ∧
    elapsed Config.default 61750 receiving.rxTs ≤ receiving.cfg.tTimeout ∧ receiving.bitIdx.toNat < 32 ∧
    (atStopBit.bitIdx = 32 ∧ atStopBit.cfg.tThresh ≤ elapsed Config.default 93500 atStopBit.rxTs ∧
      elapsed Config.default 93500 atStopBit.rxTs < atStopBit.cfg.tLong) := by decide
theorem witness_WatchdogEndsAStalledReceive :
    (waiting 1035001).status = .responseWaiting ∧
    (waiting 1035001).cfg.tTimeout < elapsed Config.default (clock (waiting 1035001)) (waiting 1035001).rxTs ∧
    (waiting 1035000).status ≠ .delay ∧ watched (inStatus .ready).status = false ∧
    elapsed Config.default (clock (waiting 1035000)) (waiting 1035000).rxTs ≤ (waiting 1035000).cfg.tTimeout := by decide
theorem witness_CleanLineFramesAreReceived :
    ∃ h, Config.default.Valid ∧ (waiting 0).irqEn = true ∧ (waiting 0).cfg.tShort ≤ h ∧ h < (waiting 0).cfg.tThresh ∧
      (waiting 0).cfg.tThresh ≤ 2 * h ∧ 2 * h < (waiting 0).cfg.tLong ∧ (waiting 0).status = .responseWaiting ∧
      elapsed Config.default 60000 (waiting 0).rxTs ≤ (waiting 0).cfg.tTimeout ∧ (slave (inStatus .ready)).status = .ready ∧
      (slave (inStatus .ready)).cfg.role = .slave := ⟨375, by decide⟩
theorem witness_SendingAccessorsStartTheirRequest :
    (inStatus .ready).status = .ready := rfl
theorem witness_SendingAccessorsAreRejectedElsewhere :
    (sending 0).status ≠ .ready ∧ (sending 0).status ≠ .delay ∧ watchdogDue (clock (sending 0)) (sending 0) = false ∧
    (sending 0).cfg.sentinel = 0 := by decide

end Sys2Proof.Tests
end

section
/-!
PROOFS. The environment of a step: the parameters, the clock and the three lists, as every operation leaves them
(R5, R43).
-/

namespace Sys2Proof.Machine

/-- What belongs to the construction of the core and to its environment, not to the core itself (R5, R32, R43): the
parameters, the clock, the transitions, words and polls to come. -/
def environment (s : State) : Config × Nat × List LineItem × List HostItem × List Nat :=
  (s.cfg, s.now, s.line, s.host, s.polls)

theorem environment_eq_iff (s t : State) :
    environment t = environment s ↔
      t.cfg = s.cfg ∧ t.now = s.now ∧ t.line = s.line ∧ t.host = s.host ∧ t.polls = s.polls := by
  simp [environment]

@[simp] theorem environment_quiet (s : State) : environment (quiet s) = environment s := rfl

@[simp] theorem environment_giveResult (r : Result) (s : State) : environment (giveResult r s) = environment s := rfl

@[simp] theorem environment_takeError (cause : PendCause) (t : Nat) (s : State) :
    environment (takeError cause t s) = environment s := rfl

@[simp] theorem environment_endEffect (s : State) : environment (endEffect s) = environment s := rfl

@[simp] theorem environment_endSync (kind : SyncKind) (f : Frame) (s : State) :
    environment (endSync kind f s) = environment s := rfl

@[simp] theorem environment_watchdogFirst (t : Nat) (s : State) :
    environment (watchdogFirst t s) = environment s := by
  simp [environment]

@[simp] theorem environment_finalise (s : State) : environment (finalise s) = environment s := by
  simp [environment]

@[simp] theorem environment_beginEffect (cb : Bool) (s : State) :
    environment (beginEffect cb s) = environment s := by
  unfold beginEffect
  split <;> rfl

@[simp] theorem environment_trySend (f : Frame) (kind : TxKind) (s : State) :
    environment (trySend f kind s) = environment s := by
  obtain ⟨-, e⟩ | ⟨-, e⟩ := trySend_cases f kind s <;> rw [e] <;> rfl

@[simp] theorem environment_startSync (kind : SyncKind) (f : Frame) (s : State) :
    environment (startSync kind f s) = environment s := by
  obtain ⟨-, e⟩ | ⟨-, e⟩ := startSync_cases kind f s <;> rw [e] <;> rfl

@[simp] theorem environment_pollCall (c : SyncCall) (s : State) : environment (pollCall c s) = environment s := by
  obtain ⟨-, e⟩ | ⟨-, -, e⟩ | ⟨-, -, e⟩ := pollCall_cases c s <;> simp [e]

@[simp] theorem environment_txHalfEffect (s : State) : environment (txHalfEffect s) = environment s := by
  obtain ⟨-, -, e⟩ | ⟨-, -, e⟩ | ⟨-, e⟩ := txHalfEffect_cases s <;> rw [e] <;> rfl

@[simp] theorem environment_txHalfCompletionEffect (s : State) :
    environment (txHalfCompletionEffect s) = environment s := by
  unfold txHalfCompletionEffect
  split <;> rfl

@[simp] theorem environment_wdgEffect (s : State) : environment (wdgEffect s) = environment s := by
  unfold wdgEffect
  split <;> rfl

@[simp] theorem environment_edgeByStatus (t : Nat) (lvl : Level) (s : State) :
    environment (edgeByStatus t lvl s) = environment s := by
  obtain e | ⟨-, -, -, e⟩ | ⟨-, e⟩ | ⟨-, -, -, e⟩ | ⟨-, e⟩ | ⟨-, -, -, e⟩ | ⟨-, -, -, -, e⟩ :=
    edgeByStatus_cases t lvl s <;> rw [e] <;> rfl

@[simp] theorem environment_edgeHandler (t : Nat) (lvl : Level) (s : State) :
    environment (edgeHandler t lvl s) = environment s := by
  cases h : s.irqEn
  · rw [edgeHandler_detached t lvl s h]
  · rw [edgeHandler_attached t lvl s h, environment_edgeByStatus, environment_watchdogFirst]

/-- No effect of a protocol operation or of an event step reaches the environment. -/
@[simp] theorem environment_opEffect (c : Config) (i : Instr) (s : State) :
    environment (opEffect c i s) = environment s := by
  cases i with
  | beginOp cb => exact environment_beginEffect cb s
  | endOp => exact environment_endEffect s
  | sendRequest f => exact environment_startSync _ _ s
  | sendRequestAsync f => exact environment_trySend _ _ s
  | sendResponse f => exact environment_trySend _ _ s
  | process => exact environment_finalise s
  | edge t lvl => exact environment_edgeHandler t lvl s
  | txHalf => exact environment_txHalfEffect s
  | txHalfCompletion => exact environment_txHalfCompletionEffect s
  | wdg => exact environment_wdgEffect s
  | setBoilerStatus ch dhw cool otc ch2 => exact environment_startSync _ _ s
  | getBoilerTemperature => exact environment_startSync _ _ s
  | _ => rfl

/-- An instruction leaves the environment alone: the clock and the queues move between instructions only. -/
theorem exec_environment {i : Instr} {s t : State} (h : exec i s = .next t) : environment t = environment s := by
  obtain ⟨-, r, rfl⟩ | ⟨-, -, rfl⟩ | ⟨-, -, rfl⟩ := exec_next_cases h
  · rfl
  · rw [environment_opEffect, environment_quiet]
  · rw [environment_opEffect, environment_watchdogFirst, environment_quiet]

/-- A poll of a blocked host leaves the environment alone, as an instruction does. -/
theorem pollSync_environment {s t : State} (h : pollSync s = .next t) : environment t = environment s := by
  unfold pollSync at h
  split at h
  · cases h
    rfl
  · obtain ⟨-, rfl⟩ := (protocolStep_next_iff _ _ _).1 h
    rw [environment_pollCall, environment_watchdogFirst, environment_quiet]

theorem cfg_now_of_environment {u t : State} (h : environment t = environment u) : t.cfg = u.cfg ∧ t.now = u.now := by
  obtain ⟨hcfg, hnow, -⟩ := (environment_eq_iff u t).1 h
  exact ⟨hcfg, hnow⟩

/-- A step keeps the parameters, and the clock stands at the instant of the agent that moved, which is not past, or
one microsecond on (R43). -/
theorem step_cfg_and_now {s t : State} (h : step s = .next t) : t.cfg = s.cfg ∧ s.now ≤ t.now := by
  obtain ⟨-, rfl⟩ | ⟨n, a, ha, -, hmove⟩ := step_next_cases h
  · exact ⟨rfl, Nat.le_succ _⟩
  · have hn : t.cfg = s.cfg ∧ t.now = n := by
      obtain ⟨-, hx⟩ | ⟨_, _, -, -, hx⟩ | ⟨-, -, hx⟩ | ⟨-, -, hx⟩ | ⟨_, _, _, -, -, -, -, hx⟩ | ⟨-, -, hp⟩ := hmove
      · exact cfg_now_of_environment (exec_environment hx)
      · exact cfg_now_of_environment (exec_environment hx)
      · exact cfg_now_of_environment (exec_environment hx)
      · exact cfg_now_of_environment (exec_environment hx)
      · exact cfg_now_of_environment (exec_environment hx)
      · exact cfg_now_of_environment (pollSync_environment hp)
    exact ⟨hn.1, hn.2 ▸ now_le_agentTime ha⟩

/-- Settles O7: no effect reaches the environment, and no agent's instant is past. -/
theorem parametersStayAndTimeNeverRunsBack : Obligations.ParametersStayAndTimeNeverRunsBack :=
  ⟨fun _ s t h => (environment_eq_iff s t).1 (exec_environment h), fun _ _ h => step_cfg_and_now h⟩

end Sys2Proof.Machine
end

section
/-!
PROOFS. The scheduler from the agent's side: the agent with the earliest instant, first in R208's order, is the next
one; the step of a free host.
-/

namespace Sys2Proof.Machine

theorem agentRank_injective : Function.Injective agentRank := by
  intro a b h
  cases a <;> cases b <;> simp [agentRank] at h ⊢

/-- The converse of `nextAgent_cases`: an agent that comes before every other one is the agent that moves next. -/
theorem nextAgent_eq_of_first {a : Agent} {s : State} {n : Nat} (ha : agentTime a s = some n)
    (hfirst : ∀ b m, agentTime b s = some m → n < m ∨ (n = m ∧ agentRank a ≤ agentRank b)) :
    nextAgent s = some (n, a) := by
  obtain ⟨-, hnone⟩ | ⟨m, b, e, hb, hall⟩ := nextAgent_cases s
  · simp [hnone a] at ha
  · have h1 := hfirst b m hb
    have h2 := hall a n ha
    have hm : m = n := by omega
    have hr : b = a := agentRank_injective (by omega)
    rw [e, hm, hr]

/-- The host moves next when every other agent's step lies later. -/
theorem nextAgent_host {s : State} {n : Nat} (hh : hostTime s = some n) (hw : ∀ u ∈ watchdogTime s, n < u)
    (hl : ∀ u ∈ lineTime s, n < u) (he : ∀ u ∈ engineTime s, n < u) : nextAgent s = some (n, .host) := by
  refine nextAgent_eq_of_first hh fun b m hb => ?_
  cases b with
  | watchdog => exact .inl (hw m hb)
  | line => exact .inl (hl m hb)
  | engine => exact .inl (he m hb)
  | host => exact .inr ⟨Option.some.inj (hh.symm.trans hb), Nat.le_refl _⟩

/-- A free host issues its next word at the word's time, or now if that has passed (R51). -/
theorem hostTime_free {s : State} {h : HostItem} {rest : List HostItem} (hs : s.sync = none)
    (hh : s.host = h :: rest) : hostTime s = some (max s.now h.time) := by
  simp [hostTime, hs, hh]

theorem step_host_decoded {s : State} {n : Nat} {h : HostItem} {rest : List HostItem} {i : Instr}
    (hn : nextAgent s = some (n, .host)) (hs : s.sync = none) (hh : s.host = h :: rest)
    (hd : decodeHost h.word = .ok i) : step s = exec i { s with now := n, host := rest } := by
  simp [step, nextMove, hostMove, atTime, hn, hs, hh, hd]

theorem step_host_undecodable {s : State} {n : Nat} {h : HostItem} {rest : List HostItem} {e : DecodeError}
    (hn : nextAgent s = some (n, .host)) (hs : s.sync = none) (hh : s.host = h :: rest)
    (hd : decodeHost h.word = .error e) : step s = .refused (.undecodable e) := by
  simp [step, nextMove, hostMove, atTime, hn, hs, hh, hd]

/-- Settles O17: the host moves next, at the time of its word, and its move is the decoded word or the refusal. -/
theorem stepRunsTheDecodedHostWord : Obligations.StepRunsTheDecodedHostWord := by
  intro s h rest hs hh hw hl he
  have hn : nextAgent s = some (max s.now h.time, .host) := nextAgent_host (hostTime_free hs hh) hw hl he
  exact ⟨fun _ hd => step_host_decoded hn hs hh hd, fun _ hd => step_host_undecodable hn hs hh hd⟩

end Sys2Proof.Machine
end

section
/-!
PROOFS. What a step can write, said once: `CoreWrite` lists the writes of the model with the states they occur in, and
every instruction, poll and step is a chain of them. An invariant that every single write keeps is then kept by all.
-/

namespace Sys2Proof.Machine

/-- One write to the state, with what is known of the state where it occurs. The first is everything outside R10: the
clock, the queues, the blocked host and the outputs. -/
inductive CoreWrite : State → State → Prop
  | outside (s : State) (now : Nat) (line : List LineItem) (host : List HostItem) (polls : List Nat)
      (sync : Option SyncCall) (out : Outputs) :
      CoreWrite s { s with now := now, line := line, host := host, polls := polls, sync := sync, out := out }
  | begin (s : State) (cb : Bool) (hs : s.status = .notInitialized) :
      CoreWrite s (lineWrite .idle { s with status := .ready, irqEn := true, cbEn := cb })
  | stop (s : State) : CoreWrite s (endEffect s)
  | error (s : State) (cause : PendCause) (t : Nat) (hs : watched s.status = true) (ht : t < 2 ^ s.cfg.wTime) :
      CoreWrite s (takeError cause t s)
  | send (s : State) (f : Frame) (kind : TxKind) (hs : s.status = .ready) :
      CoreWrite s (txStart f kind (clock s) s)
  | halfPeriod (s : State) (hs : s.status = .requestSending) (hx : s.txIdx.toNat ≤ 67) : CoreWrite s (txHalfPeriod s)
  | complete (s : State) (hs : s.status = .requestSending) : CoreWrite s (txComplete (clock s) s)
  | startBit (s : State) (t : Nat) (hs : s.status = .ready ∨ s.status = .responseWaiting)
      (ht : t < 2 ^ s.cfg.wTime) : CoreWrite s (edgeInWaiting t s)
  | receive (s : State) (t : Nat) (hs : s.status = .responseStartBit) (ht : t < 2 ^ s.cfg.wTime) :
      CoreWrite s { s with status := .responseReceiving, bitIdx := 0#6, rxShift := 0#32, rxTs := t }
  | dataBit (s : State) (b : Bool) (t : Nat) (hs : s.status = .responseReceiving) (hb : s.bitIdx.toNat < 32)
      (ht : t < 2 ^ s.cfg.wTime) : CoreWrite s (shiftIn b t s)
  | stopBit (s : State) (t : Nat) (hs : s.status = .responseReceiving) (hb : 32 ≤ s.bitIdx.toNat)
      (ht : t < 2 ^ s.cfg.wTime) : CoreWrite s { s with status := .responseReady, rxTs := t }
  | finish (s : State) (rs : ResponseStatus) (hs : receiveEnded s.status = true) (hr : rs ≠ .none) :
      CoreWrite s (deliver rs s)

/-- A chain of writes. -/
abbrev CoreWrites : State → State → Prop := Relation.ReflTransGen CoreWrite

/-- What every write keeps, a chain of writes keeps. -/
theorem CoreWrites.keep {P : State → Prop} (hP : ∀ s t, P s → CoreWrite s t → P t) {s t : State} (hs : P s)
    (h : CoreWrites s t) : P t := by
  induction h with
  | refl => exact hs
  | tail _ hw ih => exact hP _ _ ih hw

/-- The watchdog covers three states of a receive (R149). -/
theorem watched_iff (st : DriverStatus) :
    watched st = true ↔ st = .responseWaiting ∨ st = .responseStartBit ∨ st = .responseReceiving := by
  cases st <;> simp [watched]

theorem receiveEnded_iff (st : DriverStatus) :
    receiveEnded st = true ↔ st = .responseReady ∨ st = .responseInvalid := by
  cases st <;> simp [receiveEnded]

/-! ### The writes of each shared operation -/

theorem coreWrites_outside (s : State) (now : Nat) (line : List LineItem) (host : List HostItem) (polls : List Nat)
    (sync : Option SyncCall) (out : Outputs) :
    CoreWrites s { s with now := now, line := line, host := host, polls := polls, sync := sync, out := out } :=
  .single (.outside s now line host polls sync out)

theorem coreWrites_giveResult (r : Result) (s : State) : CoreWrites s (giveResult r s) :=
  coreWrites_outside ..

theorem coreWrites_quiet (s : State) : CoreWrites s (quiet s) :=
  coreWrites_outside ..

theorem coreWrites_endSync (kind : SyncKind) (f : Frame) (s : State) : CoreWrites s (endSync kind f s) :=
  coreWrites_outside ..

theorem coreWrites_watchdogFirst (t : Nat) (s : State) : CoreWrites s (watchdogFirst t s) := by
  obtain ⟨-, e⟩ | ⟨hdue, e⟩ := watchdogFirst_cases t s <;> rw [e]
  exact .single (.error s _ _ ((watchdogDue_iff t s).1 hdue).1 (wrapTime_lt _ _))

theorem coreWrites_wdgEffect (s : State) : CoreWrites s (wdgEffect s) := by
  unfold wdgEffect
  split
  · rename_i hdue
    exact .single (.error s _ _ ((watchdogDue_iff _ s).1 hdue).1 (clock_lt s))
  · exact .refl

theorem coreWrites_beginEffect (cb : Bool) (s : State) : CoreWrites s (beginEffect cb s) := by
  unfold beginEffect
  split
  · rename_i hs
    exact .single (.begin s cb hs)
  · exact .refl

/-- `process` does nothing, or it reports at most an error and delivers a status that is not `NONE` (R166). -/
theorem finalise_idle_or_delivers (s : State) :
    (receiveEnded s.status = false ∧ finalise s = s) ∨
    (receiveEnded s.status = true ∧ ∃ rs reports, rs ≠ .none ∧
      finalise s = deliver rs { s with out := { s.out with reports := reports } }) := by
  obtain h | ⟨hs, -, e⟩ | ⟨hs, -, e⟩ | ⟨hs, -, e⟩ | ⟨hs, -, e⟩ := finalise_cases s
  · exact .inl h
  · exact .inr ⟨(receiveEnded_iff _).2 (.inl hs), .success, s.out.reports, by simp, e⟩
  · exact .inr ⟨(receiveEnded_iff _).2 (.inl hs), .invalid, _, by simp, e⟩
  · exact .inr ⟨(receiveEnded_iff _).2 (.inr hs), .timeout, s.out.reports, by simp, e⟩
  · exact .inr ⟨(receiveEnded_iff _).2 (.inr hs), .invalid, s.out.reports, by simp, e⟩

theorem coreWrites_finalise (s : State) : CoreWrites s (finalise s) := by
  obtain ⟨-, e⟩ | ⟨hs, rs, reports, hr, e⟩ := finalise_idle_or_delivers s <;> rw [e]
  exact (coreWrites_outside ..).tail (.finish _ rs hs hr)

theorem coreWrites_trySend (f : Frame) (kind : TxKind) (s : State) : CoreWrites s (trySend f kind s) := by
  obtain ⟨hs, e⟩ | ⟨-, e⟩ := trySend_cases f kind s <;> rw [e]
  · exact .head (.send s f kind hs) (coreWrites_giveResult ..)
  · exact coreWrites_giveResult ..

theorem coreWrites_startSync (kind : SyncKind) (f : Frame) (s : State) : CoreWrites s (startSync kind f s) := by
  obtain ⟨hs, e⟩ | ⟨-, e⟩ := startSync_cases kind f s <;> rw [e]
  · exact .head (.send s f .request hs) (coreWrites_outside ..)
  · exact coreWrites_giveResult ..

theorem coreWrites_pollCall (c : SyncCall) (s : State) : CoreWrites s (pollCall c s) := by
  obtain ⟨-, e⟩ | ⟨-, -, e⟩ | ⟨-, -, e⟩ := pollCall_cases c s <;> rw [e]
  · exact (coreWrites_finalise s).trans (coreWrites_endSync ..)
  · exact coreWrites_endSync ..

theorem coreWrites_txHalfEffect (s : State) : CoreWrites s (txHalfEffect s) := by
  obtain ⟨hs, hx, e⟩ | ⟨hs, -, e⟩ | ⟨-, e⟩ := txHalfEffect_cases s <;> rw [e]
  · exact .single (.halfPeriod s hs hx)
  · exact .single (.complete s hs)

theorem coreWrites_txHalfCompletionEffect (s : State) : CoreWrites s (txHalfCompletionEffect s) := by
  unfold txHalfCompletionEffect
  split
  · rename_i h
    exact .single (.complete s h.1)
  · exact .refl

theorem coreWrites_edgeByStatus (t : Nat) (lvl : Level) (s : State) (ht : t < 2 ^ s.cfg.wTime) :
    CoreWrites s (edgeByStatus t lvl s) := by
  obtain e | ⟨hs, -, -, e⟩ | ⟨hs, e⟩ | ⟨hs, -, -, e⟩ | ⟨hs, e⟩ | ⟨hs, -, hb, e⟩ | ⟨hs, -, hb, -, e⟩ :=
    edgeByStatus_cases t lvl s <;> rw [e]
  · exact .single (.startBit s t (.inl hs) ht)
  · exact .single (.startBit s t (.inr hs) ht)
  · exact .single (.receive s t hs ht)
  · exact .single (.error s .framing t ((watched_iff _).2 (.inr hs)) ht)
  · exact .single (.dataBit s _ t hs hb ht)
  · exact .single (.stopBit s t hs hb ht)

theorem coreWrites_edgeHandler (t : Nat) (lvl : Level) (s : State) : CoreWrites s (edgeHandler t lvl s) := by
  cases h : s.irqEn
  · rw [edgeHandler_detached t lvl s h]
  · rw [edgeHandler_attached t lvl s h]
    refine (coreWrites_watchdogFirst ..).trans (coreWrites_edgeByStatus _ lvl _ ?_)
    rw [watchdogFirst_cfg]
    exact wrapTime_lt _ _

/-! ### The writes of an instruction, a poll and a step -/

theorem coreWrites_opEffect (c : Config) (i : Instr) (s : State) : CoreWrites s (opEffect c i s) := by
  cases i with
  | beginOp cb => exact coreWrites_beginEffect cb s
  | endOp => exact .single (.stop s)
  | isReady => exact coreWrites_giveResult ..
  | sendRequest f => exact coreWrites_startSync ..
  | sendRequestAsync f => exact coreWrites_trySend ..
  | sendResponse f => exact coreWrites_trySend ..
  | process => exact coreWrites_finalise s
  | getLastResponse => exact coreWrites_giveResult ..
  | getLastResponseStatus => exact coreWrites_giveResult ..
  | edge t lvl => exact coreWrites_edgeHandler t lvl s
  | txHalf => exact coreWrites_txHalfEffect s
  | txHalfCompletion => exact coreWrites_txHalfCompletionEffect s
  | wdg => exact coreWrites_wdgEffect s
  | setBoilerStatus ch dhw cool otc ch2 => exact coreWrites_startSync ..
  | getBoilerTemperature => exact coreWrites_startSync ..
  | _ => exact .refl

theorem exec_coreWrites {i : Instr} {s t : State} (h : exec i s = .next t) : CoreWrites s t := by
  obtain ⟨-, r, rfl⟩ | ⟨-, -, rfl⟩ | ⟨-, -, rfl⟩ := exec_next_cases h
  · exact coreWrites_outside ..
  · exact (coreWrites_quiet s).trans (coreWrites_opEffect ..)
  · exact (coreWrites_quiet s).trans ((coreWrites_watchdogFirst ..).trans (coreWrites_opEffect ..))

theorem pollSync_coreWrites {s t : State} (h : pollSync s = .next t) : CoreWrites s t := by
  unfold pollSync at h
  split at h
  · cases h
    exact coreWrites_quiet s
  · obtain ⟨-, rfl⟩ := (protocolStep_next_iff _ _ _).1 h
    exact (coreWrites_quiet s).trans ((coreWrites_watchdogFirst ..).trans (coreWrites_pollCall ..))

/-- A step moves the clock and takes an item off a queue; the rest are the writes of its instruction or poll. -/
theorem step_coreWrites {s t : State} (h : step s = .next t) : CoreWrites s t := by
  obtain ⟨-, rfl⟩ | ⟨n, a, -, -, hmove⟩ := step_next_cases h
  · exact coreWrites_outside ..
  · obtain ⟨-, hx⟩ | ⟨_, _, -, -, hx⟩ | ⟨-, -, hx⟩ | ⟨-, -, hx⟩ | ⟨_, _, _, -, -, -, -, hx⟩ | ⟨-, -, hp⟩ := hmove
    · exact (coreWrites_outside ..).trans (exec_coreWrites hx)
    · exact (coreWrites_outside ..).trans (exec_coreWrites hx)
    · exact (coreWrites_outside ..).trans (exec_coreWrites hx)
    · exact (coreWrites_outside ..).trans (exec_coreWrites hx)
    · exact (coreWrites_outside ..).trans (exec_coreWrites hx)
    · exact (coreWrites_outside ..).trans (pollSync_coreWrites hp)

end Sys2Proof.Machine
end

section
/-!
PROOFS. The invariants of R33 and the widths of the timestamps: true after reset, and kept by every write.
-/

namespace Sys2Proof.Machine

/-! ### After reset (R34) -/

theorem resetWith_inv (c : Config) : (State.resetWith c).Inv := by
  constructor <;> simp [State.resetWith]

theorem resetWith_widthInv (c : Config) : (State.resetWith c).WidthInv :=
  ⟨Nat.two_pow_pos _, Nat.two_pow_pos _⟩

theorem resetWith_waveformInv (c : Config) : (State.resetWith c).WaveformInv :=
  fun _ => rfl

theorem resetWith_syncInv (c : Config) : (State.resetWith c).SyncInv :=
  ⟨fun h => absurd rfl h, fun h => absurd rfl h⟩

/-- Neither the watchdog nor the engine has a step in the state after reset. -/
theorem resetWith_timingInv (c : Config) (h : c.Valid) : (State.resetWith c).TimingInv where
  valid := h
  watchdogAhead hw := by simp [State.resetWith, watched] at hw
  engineAhead hs := by simp [State.resetWith] at hs

theorem config_default_valid : Config.default.Valid := by decide

/-- Settles O1: the fields of `State.resetWith` as they are written. -/
theorem resetStateHasTheResetValues : Obligations.ResetStateHasTheResetValues :=
  fun _ => ⟨rfl, rfl, rfl, rfl, rfl, rfl, rfl, rfl, rfl, rfl, rfl, rfl, rfl, rfl, rfl⟩

/-- Settles O2: one lemma for each invariant. -/
theorem resetMeetsTheInvariants : Obligations.ResetMeetsTheInvariants :=
  ⟨fun c => ⟨resetWith_inv c, resetWith_widthInv c, resetWith_waveformInv c, resetWith_syncInv c,
    resetWith_timingInv c⟩, config_default_valid, rfl⟩

/-! ### The timestamps -/

/-- A time that is written to a timestamp is the clock or a time of its width. -/
theorem State.WidthInv.write {s t : State} (h : s.WidthInv) (hw : CoreWrite s t) : t.WidthInv := by
  obtain ⟨hrx, htx⟩ := h
  cases hw with
  | outside | begin | stop | halfPeriod => exact ⟨hrx, htx⟩
  | finish => exact ⟨by simpa using hrx, by simpa using htx⟩
  | send => exact ⟨hrx, clock_lt s⟩
  | complete => exact ⟨clock_lt s, htx⟩
  | error _ _ _ ht | startBit _ _ ht | receive _ _ ht | dataBit _ _ _ _ ht | stopBit _ _ _ ht => exact ⟨ht, htx⟩

/-- Settles O57: every write keeps the widths. -/
theorem stepsKeepTheTimestampsInTheirWidth : Obligations.StepsKeepTheTimestampsInTheirWidth :=
  ⟨fun _ _ _ h hx => (exec_coreWrites hx).keep (fun _ _ => State.WidthInv.write) h,
    fun _ _ h hx => (step_coreWrites hx).keep (fun _ _ => State.WidthInv.write) h⟩

end Sys2Proof.Machine
end

section
/-!
PROOFS. The invariants of R33 that speak of one state, write by write.
-/

namespace Sys2Proof.Machine

/-- Between two states of an attached core in which the engine rests, only `bit_idx` needs an argument. -/
theorem State.Inv.move {s t : State} (h : s.Inv) (hs : s.status ≠ .notInitialized ∧ s.status ≠ .requestSending)
    (hst : t.status ≠ .notInitialized ∧ t.status ≠ .delay) (hx : t.txIdx = s.txIdx) (hl : t.lineOut = s.lineOut)
    (hi : t.irqEn = s.irqEn) (hb : t.bitIdx.toNat ≤ 32) (hf : t.status = .responseReady → t.bitIdx = 32#6) :
    t.Inv where
  notDelay := hst.2
  bitIdxBound := hb
  txIdxBound := hx ▸ h.txIdxBound
  atRest _ := hx ▸ hl ▸ h.atRest hs.2
  attached := by simp [hi, h.attached, hs.1, hst.1]
  noCallback h0 := absurd h0 hst.1
  fullFrame := hf

/-- `begin` finds the engine at rest and attaches the interrupt. -/
theorem State.Inv.begin {s : State} (h : s.Inv) (cb : Bool) (hs : s.status = .notInitialized) :
    (lineWrite .idle { s with status := .ready, irqEn := true, cbEn := cb }).Inv where
  notDelay := by simp
  bitIdxBound := h.bitIdxBound
  txIdxBound := h.txIdxBound
  atRest _ := ⟨(h.atRest (by simp [hs])).1, rfl⟩
  attached := by simp
  noCallback := by simp
  fullFrame := by simp

theorem State.Inv.stop {s : State} (h : s.Inv) : (endEffect s).Inv where
  notDelay := by simp
  bitIdxBound := h.bitIdxBound
  txIdxBound := by simp
  atRest _ := ⟨rfl, rfl⟩
  attached := by simp
  noCallback _ := rfl
  fullFrame := by simp

/-- A state in which a transmission runs needs the bounds of the two counters and an attached interrupt. -/
theorem State.Inv.of_requestSending {s : State} (hs : s.status = .requestSending) (hb : s.bitIdx.toNat ≤ 32)
    (hx : s.txIdx.toNat ≤ 68) (hi : s.irqEn = true) : s.Inv where
  notDelay := by simp [hs]
  bitIdxBound := hb
  txIdxBound := hx
  atRest h := absurd hs h
  attached := by simp [hs, hi]
  noCallback := by simp [hs]
  fullFrame := by simp [hs]

theorem State.Inv.irqEn {s : State} (h : s.Inv) (hs : s.status ≠ .notInitialized) : s.irqEn = true :=
  h.attached.2 hs

/-- The completion step leaves the counter at 0 and the line at rest, whichever state follows (R134). -/
theorem State.Inv.complete {s : State} (h : s.Inv) (hs : s.status = .requestSending) (t : Nat) :
    (txComplete t s).Inv where
  notDelay := by cases hk : s.txKind <;> simp [hk]
  bitIdxBound := h.bitIdxBound
  txIdxBound := by simp
  atRest _ := ⟨rfl, rfl⟩
  attached := by cases hk : s.txKind <;> simp [hk, h.irqEn, hs]
  noCallback := by cases hk : s.txKind <;> simp [hk]
  fullFrame := by cases hk : s.txKind <;> simp [hk]

/-- Every write keeps the invariants. -/
theorem State.Inv.write {s t : State} (h : s.Inv) (hw : CoreWrite s t) : t.Inv := by
  cases hw with
  | outside => exact ⟨h.notDelay, h.bitIdxBound, h.txIdxBound, h.atRest, h.attached, h.noCallback, h.fullFrame⟩
  | begin cb hs => exact h.begin cb hs
  | stop => exact h.stop
  | error cause t hs =>
    rw [watched_iff] at hs
    exact h.move (by rcases hs with h | h | h <;> simp [h]) (by simp) rfl rfl rfl h.bitIdxBound (by simp)
  | send f kind hs => exact .of_requestSending rfl h.bitIdxBound (by simp) (h.irqEn (by simp [hs]))
  | halfPeriod hs hx =>
    exact .of_requestSending hs h.bitIdxBound (by simp [BitVec.toNat_add]; omega) (h.irqEn (by simp [hs]))
  | complete hs => exact h.complete hs _
  | startBit t hs =>
    exact h.move (by rcases hs with h | h <;> simp [h]) (by simp) rfl rfl rfl h.bitIdxBound (by simp)
  | receive t hs => exact h.move (by simp [hs]) (by simp) rfl rfl rfl (by simp) (by simp)
  | dataBit b t hs hb =>
    exact h.move (by simp [hs]) (by simp [hs]) rfl rfl rfl (by simp [BitVec.toNat_add]; omega) (by simp [hs])
  | stopBit t hs hb =>
    have hfull : s.bitIdx = 32#6 := BitVec.eq_of_toNat_eq (Nat.le_antisymm h.bitIdxBound hb)
    exact h.move (by simp [hs]) (by simp) rfl rfl rfl h.bitIdxBound fun _ => hfull
  | finish rs hs =>
    rw [receiveEnded_iff] at hs
    exact h.move (by rcases hs with h | h <;> simp [h]) (by simp) (by simp) (by simp) (by simp)
      (by simpa using h.bitIdxBound) (by simp)

/-- Settles O3: an instruction and a step are chains of writes, and every write keeps the invariants. -/
theorem stepsKeepTheStateInvariants : Obligations.StepsKeepTheStateInvariants :=
  ⟨fun _ _ _ h hx => (exec_coreWrites hx).keep (fun _ _ => State.Inv.write) h,
    fun _ _ h hx => (step_coreWrites hx).keep (fun _ _ => State.Inv.write) h⟩

end Sys2Proof.Machine
end

section
/-!
PROOFS. The results of a receive and the callback (R12, R13, R27): written by `process` and by the poll that finalises
a synchronous send, by nothing else.
-/

namespace Sys2Proof.Machine

/-- What `process` writes and raises: the two results and the callback strobe. -/
def results (s : State) : Frame × ResponseStatus × Option (Frame × ResponseStatus) :=
  (s.lastResponse, s.respStatus, s.out.callback)

theorem results_eq_iff (s t : State) :
    results t = results s ↔
      t.lastResponse = s.lastResponse ∧ t.respStatus = s.respStatus ∧ t.out.callback = s.out.callback := by
  simp [results]

@[simp] theorem results_endSync (kind : SyncKind) (f : Frame) (s : State) : results (endSync kind f s) = results s :=
  rfl

@[simp] theorem results_watchdogFirst (t : Nat) (s : State) : results (watchdogFirst t s) = results s := by
  obtain ⟨-, e⟩ | ⟨-, e⟩ := watchdogFirst_cases t s
  · rw [e]
  · rw [e]
    rfl

@[simp] theorem results_beginEffect (cb : Bool) (s : State) : results (beginEffect cb s) = results s := by
  unfold beginEffect
  split <;> rfl

@[simp] theorem results_trySend (f : Frame) (kind : TxKind) (s : State) : results (trySend f kind s) = results s := by
  obtain ⟨-, e⟩ | ⟨-, e⟩ := trySend_cases f kind s <;> rw [e] <;> rfl

@[simp] theorem results_startSync (kind : SyncKind) (f : Frame) (s : State) :
    results (startSync kind f s) = results s := by
  obtain ⟨-, e⟩ | ⟨-, e⟩ := startSync_cases kind f s <;> rw [e] <;> rfl

@[simp] theorem results_txHalfEffect (s : State) : results (txHalfEffect s) = results s := by
  obtain ⟨-, -, e⟩ | ⟨-, -, e⟩ | ⟨-, e⟩ := txHalfEffect_cases s <;> rw [e] <;> rfl

@[simp] theorem results_txHalfCompletionEffect (s : State) : results (txHalfCompletionEffect s) = results s := by
  unfold txHalfCompletionEffect
  split <;> rfl

@[simp] theorem results_wdgEffect (s : State) : results (wdgEffect s) = results s := by
  unfold wdgEffect
  split <;> rfl

@[simp] theorem results_edgeByStatus (t : Nat) (lvl : Level) (s : State) :
    results (edgeByStatus t lvl s) = results s := by
  obtain e | ⟨-, -, -, e⟩ | ⟨-, e⟩ | ⟨-, -, -, e⟩ | ⟨-, e⟩ | ⟨-, -, -, e⟩ | ⟨-, -, -, -, e⟩ :=
    edgeByStatus_cases t lvl s <;> rw [e] <;> rfl

@[simp] theorem results_edgeHandler (t : Nat) (lvl : Level) (s : State) :
    results (edgeHandler t lvl s) = results s := by
  cases h : s.irqEn
  · rw [edgeHandler_detached t lvl s h]
  · rw [edgeHandler_attached t lvl s h, results_edgeByStatus, results_watchdogFirst]

theorem results_opEffect (c : Config) (i : Instr) (s : State) (hi : i ≠ .process) :
    results (opEffect c i s) = results s := by
  cases i with
  | process => exact absurd rfl hi
  | beginOp cb => exact results_beginEffect cb s
  | sendRequest f => exact results_startSync _ _ s
  | sendRequestAsync f => exact results_trySend _ _ s
  | sendResponse f => exact results_trySend _ _ s
  | edge t lvl => exact results_edgeHandler t lvl s
  | txHalf => exact results_txHalfEffect s
  | txHalfCompletion => exact results_txHalfCompletionEffect s
  | wdg => exact results_wdgEffect s
  | setBoilerStatus ch dhw cool otc ch2 => exact results_startSync _ _ s
  | getBoilerTemperature => exact results_startSync _ _ s
  | _ => rfl

/-- An instruction other than `process` keeps the results and raises no callback. -/
theorem exec_results {i : Instr} {s t : State} (hi : i ≠ .process) (h : exec i s = .next t) :
    results t = results (quiet s) := by
  obtain ⟨-, r, rfl⟩ | ⟨-, -, rfl⟩ | ⟨-, -, rfl⟩ := exec_next_cases h
  · rfl
  · exact results_opEffect _ _ _ hi
  · rw [results_opEffect _ _ _ hi, results_watchdogFirst]

theorem emitCallback_callback (f : Frame) (rs : ResponseStatus) (s : State) :
    (emitCallback f rs s).out.callback = if s.cbEn then some (f, rs) else s.out.callback := by
  unfold emitCallback
  split <;> rfl

/-- The callback strobe of a delivery, if a callback is registered (R27). -/
theorem deliver_callback (rs : ResponseStatus) (s : State) :
    (deliver rs s).out.callback = if s.cbEn then some (s.rxShift, rs) else s.out.callback :=
  emitCallback_callback ..

theorem execProcess_next_iff (s t : State) :
    exec .process s = .next t ↔ s.status ≠ .delay ∧ finalise (watchdogFirst (clock s) (quiet s)) = t :=
  protocolStep_next_iff finalise s t

/-- A poll writes and raises what `process` would (R27): a poll that does not finalise finds no receive that ended. -/
@[simp] theorem results_pollCall (c : SyncCall) (s : State) : results (pollCall c s) = results (finalise s) := by
  have hidle (h : receiveEnded s.status = false) : finalise s = s := by
    obtain ⟨-, e⟩ | ⟨hs, -⟩ := finalise_idle_or_delivers s
    · exact e
    · simp [h] at hs
  obtain ⟨-, e⟩ | ⟨h, -, e⟩ | ⟨h, -, e⟩ := pollCall_cases c s
  · rw [e, results_endSync]
  · rw [e, results_endSync, hidle h]
  · rw [e, hidle h]

/-- `process` keeps the results and raises nothing, or it delivers the receive register (R166). -/
theorem execProcess_results {s t : State} (h : exec .process s = .next t) :
    (t.lastResponse = s.lastResponse ∧ t.respStatus = s.respStatus ∧ t.out.callback = none) ∨
    (t.lastResponse = s.rxShift ∧ t.respStatus ≠ .none ∧ t.status = .ready ∧
      t.out.callback = if s.cbEn then some (s.rxShift, t.respStatus) else none) := by
  obtain ⟨-, rfl⟩ := (execProcess_next_iff s t).1 h
  have hw := results_watchdogFirst (clock s) (quiet s)
  obtain ⟨hlast, hresp, hcall⟩ := (results_eq_iff _ _).1 hw
  obtain ⟨-, e⟩ | ⟨-, rs, reports, hr, e⟩ := finalise_idle_or_delivers (watchdogFirst (clock s) (quiet s)) <;> rw [e]
  · exact .inl ⟨hlast, hresp, hcall⟩
  · exact .inr (by simp [deliver_callback, hr, hcall, Outputs.silent])

/-- A poll of a blocked host and `process` answer in the same states, with the same results. -/
theorem pollSync_results {s t : State} (hs : s.sync ≠ none) (h : pollSync s = .next t) :
    ∃ u, exec .process s = .next u ∧ results t = results u := by
  obtain ⟨c, hc⟩ := Option.ne_none_iff_exists'.1 hs
  simp only [pollSync, hc] at h
  obtain ⟨hd, rfl⟩ := (protocolStep_next_iff _ _ _).1 h
  exact ⟨_, (execProcess_next_iff s _).2 ⟨hd, rfl⟩, results_pollCall c _⟩

/-- No write makes the status of the last response `NONE` (R33). -/
theorem CoreWrite.respStatus_ne_none {s t : State} (h : s.respStatus ≠ .none) (hw : CoreWrite s t) :
    t.respStatus ≠ .none := by
  cases hw with
  | finish rs _ hr => simpa using hr
  | _ => exact h

/-- Settles O8: the results pass every other effect unchanged, a poll writes those of `process`, and no write makes
the status `NONE`. -/
theorem onlyProcessWritesTheResults : Obligations.OnlyProcessWritesTheResults := by
  refine ⟨fun i s t hi h => ?_, fun s t h => execProcess_results h, fun s t hs h => ?_, fun s t hs h => ?_⟩
  · exact (results_eq_iff _ _).1 (exec_results hi h)
  · obtain ⟨u, hu, e⟩ := pollSync_results hs h
    exact ⟨u, hu, (results_eq_iff u t).1 e⟩
  · exact (step_coreWrites h).keep (P := fun s => s.respStatus ≠ .none)
      (fun _ _ => CoreWrite.respStatus_ne_none) hs

end Sys2Proof.Machine
end

section
/-!
PROOFS. The transmit side of the core (R18 to R22): what a receive, the watchdog, `process` and a poll leave alone, who
writes the output line and the pin, and what a transmission in flight keeps (R22, R42, R55).
-/

namespace Sys2Proof.Machine

/-- The elements that belong to a transmission and to the line it drives (R18 to R22). -/
def transmitSide (s : State) : Frame × BitVec 7 × TxKind × Nat × Level :=
  (s.txFrame, s.txIdx, s.txKind, s.txT0, s.lineOut)

theorem transmitSide_eq_iff (s t : State) :
    transmitSide t = transmitSide s ↔
      t.txFrame = s.txFrame ∧ t.txIdx = s.txIdx ∧ t.txKind = s.txKind ∧ t.txT0 = s.txT0 ∧ t.lineOut = s.lineOut := by
  simp [transmitSide]

/-! ### What leaves the transmit side alone -/

@[simp] theorem transmitSide_watchdogFirst (t : Nat) (s : State) :
    transmitSide (watchdogFirst t s) = transmitSide s := by
  simp [transmitSide]

@[simp] theorem transmitSide_finalise (s : State) : transmitSide (finalise s) = transmitSide s := by
  simp [transmitSide]

@[simp] theorem transmitSide_endSync (kind : SyncKind) (f : Frame) (s : State) :
    transmitSide (endSync kind f s) = transmitSide s := rfl

@[simp] theorem transmitSide_pollCall (c : SyncCall) (s : State) : transmitSide (pollCall c s) = transmitSide s := by
  obtain ⟨-, e⟩ | ⟨-, -, e⟩ | ⟨-, -, e⟩ := pollCall_cases c s <;> simp [e]

@[simp] theorem transmitSide_wdgEffect (s : State) : transmitSide (wdgEffect s) = transmitSide s := by
  unfold wdgEffect
  split <;> rfl

@[simp] theorem transmitSide_edgeByStatus (t : Nat) (lvl : Level) (s : State) :
    transmitSide (edgeByStatus t lvl s) = transmitSide s := by
  obtain e | ⟨-, -, -, e⟩ | ⟨-, e⟩ | ⟨-, -, -, e⟩ | ⟨-, e⟩ | ⟨-, -, -, e⟩ | ⟨-, -, -, -, e⟩ :=
    edgeByStatus_cases t lvl s <;> rw [e] <;> rfl

@[simp] theorem transmitSide_edgeHandler (t : Nat) (lvl : Level) (s : State) :
    transmitSide (edgeHandler t lvl s) = transmitSide s := by
  cases h : s.irqEn
  · rw [edgeHandler_detached t lvl s h]
  · rw [edgeHandler_attached t lvl s h, transmitSide_edgeByStatus, transmitSide_watchdogFirst]

/-! ### The output line (R22, R42) -/

theorem lineOut_of_transmitSide {s t : State} (h : transmitSide t = transmitSide s) : t.lineOut = s.lineOut := by
  obtain ⟨-, -, -, -, hline⟩ := (transmitSide_eq_iff s t).1 h
  exact hline

/-- The start of a transmission leaves the line to the engine's first half period (R132). -/
@[simp] theorem trySend_lineOut (f : Frame) (kind : TxKind) (s : State) :
    (trySend f kind s).lineOut = s.lineOut := by
  obtain ⟨-, e⟩ | ⟨-, e⟩ := trySend_cases f kind s <;> simp [e]

@[simp] theorem startSync_lineOut (kind : SyncKind) (f : Frame) (s : State) :
    (startSync kind f s).lineOut = s.lineOut := by
  obtain ⟨-, e⟩ | ⟨-, e⟩ := startSync_cases kind f s <;> simp [e]

theorem opEffect_lineOut (c : Config) {i : Instr} (s : State) (hbegin : ∀ cb, i ≠ .beginOp cb) (hend : i ≠ .endOp)
    (hhalf : i ≠ .txHalf) (hcompletion : i ≠ .txHalfCompletion) : (opEffect c i s).lineOut = s.lineOut := by
  cases i with
  | beginOp cb => exact absurd rfl (hbegin cb)
  | endOp => exact absurd rfl hend
  | txHalf => exact absurd rfl hhalf
  | txHalfCompletion => exact absurd rfl hcompletion
  | sendRequest f => exact startSync_lineOut ..
  | sendRequestAsync f => exact trySend_lineOut ..
  | sendResponse f => exact trySend_lineOut ..
  | process => exact finalise_lineOut s
  | edge t lvl => exact lineOut_of_transmitSide (transmitSide_edgeHandler t lvl s)
  | wdg => exact lineOut_of_transmitSide (transmitSide_wdgEffect s)
  | setBoilerStatus ch dhw cool otc ch2 => exact startSync_lineOut ..
  | getBoilerTemperature => exact startSync_lineOut ..
  | _ => rfl

/-- An instruction but `begin`, `end` and the two of the engine leaves the line as it is. -/
theorem exec_lineOut {i : Instr} {s t : State} (hbegin : ∀ cb, i ≠ .beginOp cb) (hend : i ≠ .endOp)
    (hhalf : i ≠ .txHalf) (hcompletion : i ≠ .txHalfCompletion) (h : exec i s = .next t) : t.lineOut = s.lineOut := by
  have heffect (q : State) : (opEffect s.cfg i q).lineOut = q.lineOut :=
    opEffect_lineOut s.cfg q hbegin hend hhalf hcompletion
  obtain ⟨-, r, rfl⟩ | ⟨-, -, rfl⟩ | ⟨-, -, rfl⟩ := exec_next_cases h
  · rfl
  · exact heffect _
  · exact (heffect _).trans (watchdogFirst_lineOut _ _)

/-- A poll of a blocked host leaves the transmit side alone. -/
theorem pollSync_transmitSide {s t : State} (h : pollSync s = .next t) : transmitSide t = transmitSide s := by
  unfold pollSync at h
  split at h
  · cases h
    rfl
  · obtain ⟨-, rfl⟩ := (protocolStep_next_iff _ _ _).1 h
    rw [transmitSide_pollCall, transmitSide_watchdogFirst]
    rfl

/-- The pin is high exactly at the level that the polarity makes high (R42). -/
theorem outputPin_iff (s : State) : outputPin s = true ↔ (s.lineOut = .active ↔ s.cfg.polOut = .activeHigh) :=
  pinDriven_iff s.cfg.polOut s.lineOut

/-- Outside a transmission the pin rests with the line (R22, R33). -/
theorem State.Inv.outputPin_atRest {s : State} (h : s.Inv) (hs : s.status ≠ .requestSending) :
    outputPin s = decide (s.cfg.polOut = .activeLow) := by
  rw [outputPin, (h.atRest hs).2, pinDriven_idle]

/-- Settles O9: the line passes every other effect, and the pin follows the line and the polarity, which no effect
writes. -/
theorem onlyBeginEndAndTheEngineDriveTheLine : Obligations.OnlyBeginEndAndTheEngineDriveTheLine := by
  refine ⟨fun i s t hbegin hend hhalf hcompletion h => ?_, fun s t h => ?_, outputPin_iff,
    fun s => State.Inv.outputPin_atRest⟩
  · have hline := exec_lineOut hbegin hend hhalf hcompletion h
    exact ⟨hline, outputPin_congr (cfg_now_of_environment (exec_environment h)).1 hline⟩
  · have hline := lineOut_of_transmitSide (pollSync_transmitSide h)
    exact ⟨hline, outputPin_congr (cfg_now_of_environment (pollSync_environment h)).1 hline⟩

/-! ### A transmission in flight (R18, R55) -/

/-- What a transmission was started with (R18, R20, R21). -/
def startedWith (s : State) : Frame × TxKind × Nat := (s.txFrame, s.txKind, s.txT0)

theorem startedWith_eq_iff (s t : State) :
    startedWith t = startedWith s ↔ t.txFrame = s.txFrame ∧ t.txKind = s.txKind ∧ t.txT0 = s.txT0 := by
  simp [startedWith]

theorem startedWith_of_transmitSide {s t : State} (h : transmitSide t = transmitSide s) :
    startedWith t = startedWith s := by
  obtain ⟨hframe, -, hkind, ht0, -⟩ := (transmitSide_eq_iff s t).1 h
  exact (startedWith_eq_iff s t).2 ⟨hframe, hkind, ht0⟩

@[simp] theorem startedWith_beginEffect (cb : Bool) (s : State) : startedWith (beginEffect cb s) = startedWith s := by
  unfold beginEffect
  split <;> rfl

@[simp] theorem startedWith_txHalfEffect (s : State) : startedWith (txHalfEffect s) = startedWith s := by
  obtain ⟨-, -, e⟩ | ⟨-, -, e⟩ | ⟨-, e⟩ := txHalfEffect_cases s <;> rw [e] <;> rfl

@[simp] theorem startedWith_txHalfCompletionEffect (s : State) :
    startedWith (txHalfCompletionEffect s) = startedWith s := by
  unfold txHalfCompletionEffect
  split <;> rfl

theorem trySend_rejected (f : Frame) (kind : TxKind) {s : State} (hs : s.status ≠ .ready) :
    trySend f kind s = giveResult (.bool false) s := by
  simp [trySend, hs]

theorem startSync_rejected (kind : SyncKind) (f : Frame) {s : State} (hs : s.status ≠ .ready) :
    startSync kind f s = giveResult (syncResult kind s.cfg.sentinel s) s := by
  simp [startSync, hs]

/-- A transmission is started in `READY` only (R54). -/
theorem opEffect_startedWith (c : Config) (i : Instr) {s : State} (hs : s.status ≠ .ready) :
    startedWith (opEffect c i s) = startedWith s := by
  have hasync (f : Frame) (kind : TxKind) : startedWith (trySend f kind s) = startedWith s := by
    rw [trySend_rejected f kind hs]
    rfl
  have hsync (kind : SyncKind) (f : Frame) : startedWith (startSync kind f s) = startedWith s := by
    rw [startSync_rejected kind f hs]
    rfl
  cases i with
  | beginOp cb => exact startedWith_beginEffect cb s
  | sendRequest f => exact hsync ..
  | sendRequestAsync f => exact hasync ..
  | sendResponse f => exact hasync ..
  | process => exact startedWith_of_transmitSide (transmitSide_finalise s)
  | edge t lvl => exact startedWith_of_transmitSide (transmitSide_edgeHandler t lvl s)
  | txHalf => exact startedWith_txHalfEffect s
  | txHalfCompletion => exact startedWith_txHalfCompletionEffect s
  | wdg => exact startedWith_of_transmitSide (transmitSide_wdgEffect s)
  | setBoilerStatus ch dhw cool otc ch2 => exact hsync ..
  | getBoilerTemperature => exact hsync ..
  | _ => rfl

/-- The evaluation at the head of a step moves a watched state to `RESPONSE_INVALID` and no other state (R149). -/
theorem watchdogFirst_status (t : Nat) (s : State) :
    (watchdogFirst t s).status = if watchdogDue t s then .responseInvalid else s.status := by
  obtain ⟨h, e⟩ | ⟨h, e⟩ := watchdogFirst_cases t s <;> simp [e, h]

theorem watchdogDue_of_unwatched (t : Nat) {s : State} (h : watched s.status = false) : watchdogDue t s = false := by
  simp [watchdogDue, h]

/-- The instructions that find no `READY` core keep what the last transmission was started with. -/
theorem exec_startedWith {i : Instr} {s t : State} (hs : s.status ≠ .ready) (h : exec i s = .next t) :
    startedWith t = startedWith s := by
  obtain ⟨-, r, rfl⟩ | ⟨-, -, rfl⟩ | ⟨-, -, rfl⟩ := exec_next_cases h
  · rfl
  · exact opEffect_startedWith _ _ hs
  · have hw : (watchdogFirst (clock s) (quiet s)).status ≠ .ready := by
      rw [watchdogFirst_status]
      split <;> simp [hs]
    exact (opEffect_startedWith _ _ hw).trans (startedWith_of_transmitSide (transmitSide_watchdogFirst _ _))

/-- Settles O10: `REQUEST_SENDING` is not `READY`, where alone a transmission is started. -/
theorem transmissionInFlightKeepsItsFrame : Obligations.TransmissionInFlightKeepsItsFrame :=
  fun _ s t hs h => (startedWith_eq_iff s t).1 (exec_startedWith (by simp [hs]) h)

end Sys2Proof.Machine
end

section
/-!
PROOFS. `process` consumes a receive once (R50, R166): it leaves a state in which neither it nor the watchdog has
anything to do.
-/

namespace Sys2Proof.Machine

/-- `process` ends a receive in `READY` and moves no other state (R166). -/
theorem finalise_status (s : State) :
    (finalise s).status = if receiveEnded s.status then .ready else s.status := by
  obtain ⟨h, e⟩ | ⟨h, rs, reports, -, e⟩ := finalise_idle_or_delivers s <;> simp [e, h]

theorem finalise_of_not_ended {s : State} (h : receiveEnded s.status = false) : finalise s = s := by
  obtain ⟨-, e⟩ | ⟨hs, -⟩ := finalise_idle_or_delivers s
  · exact e
  · simp [h] at hs

theorem receiveEnded_finalise (s : State) : receiveEnded (finalise s).status = false := by
  rw [finalise_status]
  split
  · rfl
  · rename_i h
    simpa using h

theorem finalise_status_ne_delay {s : State} (h : s.status ≠ .delay) : (finalise s).status ≠ .delay := by
  rw [finalise_status]
  split <;> simp [h]

theorem watchdogFirst_status_ne_delay (t : Nat) {s : State} (h : s.status ≠ .delay) :
    (watchdogFirst t s).status ≠ .delay := by
  rw [watchdogFirst_status]
  split <;> simp [h]

/-- `process` gives the watchdog nothing to do: it enters no watched state and leaves `rx_ts`. -/
theorem watchdogDue_finalise {t : Nat} {s : State} (h : watchdogDue t s = false) :
    watchdogDue t (finalise s) = false := by
  obtain ⟨-, e⟩ | ⟨-, rs, reports, -, e⟩ := finalise_idle_or_delivers s <;> rw [e]
  · exact h
  · exact watchdogDue_of_unwatched t (by simp [watched])

/-- `process` where no receive has ended and the watchdog is not due changes nothing. -/
theorem execProcess_idle {s : State} (hs : s.status ≠ .delay) (he : receiveEnded s.status = false)
    (hw : watchdogDue (clock s) s = false) : exec .process s = .next (quiet s) :=
  (protocolStep_of_not_due finalise s hs hw).trans (congrArg Host.Outcome.next (finalise_of_not_ended he))

/-- Settles O43: after a `process` no receive waits and the watchdog, evaluated at the same clock value, is not due. -/
theorem processConsumesAReceiveOnce : Obligations.ProcessConsumesAReceiveOnce := by
  intro s t h
  obtain ⟨hs, rfl⟩ := (execProcess_next_iff s t).1 h
  have hd : (finalise (watchdogFirst (clock s) (quiet s))).status ≠ .delay :=
    finalise_status_ne_delay (watchdogFirst_status_ne_delay _ hs)
  refine execProcess_idle hd (receiveEnded_finalise _) ?_
  rw [clock_finalise, clock_watchdogFirst, clock_quiet]
  exact watchdogDue_finalise (watchdogFirst_again _ _)

end Sys2Proof.Machine
end

section
/-!
PROOFS. Two readings of the clock and the true time between them (R43, R117 (f)).
-/

namespace Sys2Proof.Machine

/-- Two readings of the clock tell the true time between them, as long as the clock has not turned in between. -/
theorem elapsed_of_readings (c : Config) {a b : Nat} (hab : a ≤ b) (hd : b - a < 2 ^ c.wTime) :
    elapsed c (wrapTime c b) (wrapTime c a) = b - a := by
  rw [elapsed_wrapTime_left, elapsed_wrapTime_right]
  exact elapsed_unique c b a (b - a) hd (by rw [Nat.add_sub_cancel' hab])

/-- Settles O60: `elapsed` is a value of the clock's width, and the difference of two readings. -/
theorem elapsedIsTheTrueDifference : Obligations.ElapsedIsTheTrueDifference :=
  fun c a b => ⟨elapsed_lt c b a, elapsed_of_readings c⟩

end Sys2Proof.Machine
end

section
/-!
PROOFS. The eight frame formats as one instruction of the message type (R60 to R62): its word, its meaning, and what
the reader of a frame sees.
-/

namespace Sys2Proof.Machine

/-! ### Message types and their codes (R61) -/

@[simp] theorem messageTypeOfCode_messageTypeCode (m : MessageType) : messageTypeOfCode (messageTypeCode m) = m := by
  cases m <;> rfl

/-- Every code of three bits is the code of the message type it names. -/
@[simp] theorem messageTypeCode_messageTypeOfCode (c : BitVec 3) : messageTypeCode (messageTypeOfCode c) = c := by
  revert c
  decide

/-! ### One instruction for the eight formats -/

/-- The frame word of message type `m`. -/
def frameInstr (m : MessageType) (p : Bool) (spare : BitVec 4) (id : BitVec 8) (data : BitVec 16) : Instr :=
  match m with
  | .readData => .frameReadData p spare id data
  | .writeData => .frameWriteData p spare id data
  | .invalidData => .frameInvalidData p spare id data
  | .reserved => .frameReserved p spare id data
  | .readAck => .frameReadAck p spare id data
  | .writeAck => .frameWriteAck p spare id data
  | .dataInvalid => .frameDataInvalid p spare id data
  | .unknownDataId => .frameUnknownDataId p spare id data

theorem wellFormed_frameInstr (m : MessageType) (p : Bool) (spare : BitVec 4) (id : BitVec 8) (data : BitVec 16) :
    WellFormed (frameInstr m p spare id data) = true := by
  cases m <;> rfl

theorem encode_frameInstr (m : MessageType) (p : Bool) (spare : BitVec 4) (id : BitVec 8) (data : BitVec 16) :
    encode (frameInstr m p spare id data) = frameWord p (messageTypeCode m) spare id data := by
  cases m <;> rfl

/-- The decoder reads the format of a frame from its type and the operands from its other fields. -/
theorem decodeFrameWord_eq (f : Frame) :
    decodeFrameWord f = frameInstr (messageTypeOf f) (f.getLsbD 31) (spareField f) (idField f) (dataField f) := by
  unfold decodeFrameWord messageTypeOf messageTypeOfCode typeField
  generalize (f.extractLsb' 28 3).toNat = code
  match code with
  | 0 | 1 | 2 | 3 | 4 | 5 | 6 | _ + 7 => rfl

theorem exec_frameInstr (m : MessageType) (p : Bool) (spare : BitVec 4) (id : BitVec 8) (data : BitVec 16) (s : State) :
    exec (frameInstr m p spare id data) s = .next
      { s with out := Outputs.returning (.frameView (viewFrame (packFrame p (messageTypeCode m) spare id data))) } := by
  cases m <;> rfl

/-! ### What the reader of a frame sees -/

/-- The XOR over a list of bits is 1 exactly when the number of set bits is odd. -/
theorem foldl_xor_eq_odd_countP (b : Nat → Bool) (acc : Bool) (l : List Nat) :
    l.foldl (fun a k => a ^^ b k) acc = (acc ^^ decide (l.countP b % 2 = 1)) := by
  induction l generalizing acc with
  | nil => simp
  | cons k l ih =>
    rw [List.foldl_cons, ih]
    cases h : b k
    · simp [h]
    · rcases Nat.mod_two_eq_zero_or_one (l.countP b) with hl | hl <;> simp [h, Nat.add_mod, hl]

/-- Parity is odd exactly when the number of set bits is (R102). -/
theorem parityOf_eq_odd_popcount (f : Frame) : parityOf f = decide (popcount f % 2 = 1) := by
  rw [parityOf, foldl_xor_eq_odd_countP, Bool.false_xor, popcount]

/-- A frame is valid in a family when the number of its set bits is even and its type is of the family (R105, R106). -/
theorem validIn_eq_even_popcount (fam : Family) (f : Frame) :
    validIn fam f = (decide (popcount f % 2 = 0) && decide (familyOf (messageTypeOf f) = fam)) := by
  simp [validIn, parityOf_eq_odd_popcount, ← decide_not]

/-- A packed frame is read as it was packed: the fields, the family of the type, and validity by the number of set
bits (R60 to R62, R105, R106). -/
theorem viewFrame_packFrame (m : MessageType) (p : Bool) (spare : BitVec 4) (id : BitVec 8) (data : BitVec 16) :
    viewFrame (packFrame p (messageTypeCode m) spare id data) =
      { parityOdd := decide (popcount (packFrame p (messageTypeCode m) spare id data) % 2 = 1), messageType := m,
        family := familyOf m, spare := spare, id := id, data := data,
        validRequest := decide (popcount (packFrame p (messageTypeCode m) spare id data) % 2 = 0) &&
          decide (familyOf m = .requester),
        validResponse := decide (popcount (packFrame p (messageTypeCode m) spare id data) % 2 = 0) &&
          decide (familyOf m = .responder) } := by
  obtain ⟨-, hty, hspare, hid, hdata⟩ := packFrame_fields p (messageTypeCode m) spare id data
  have hm : messageTypeOf (packFrame p (messageTypeCode m) spare id data) = m := by
    rw [messageTypeOf, typeField, hty, messageTypeOfCode_messageTypeCode]
  simp only [viewFrame, validIn_eq_even_popcount, hm, parityOf_eq_odd_popcount, spareField, idField, dataField,
    hspare, hid, hdata]

/-- Settles O33: each listed instruction is the frame word of its type, whose family decides which validity can hold. -/
theorem frameWordsAreRead : Obligations.FrameWordsAreRead := by
  intro p spare id data s
  constructor
  · intro i m hmem
    obtain ⟨rfl, hfam⟩ : i = frameInstr m p spare id data ∧ familyOf m = .requester := by
      simp only [List.mem_cons, Prod.mk.injEq, List.not_mem_nil, or_false] at hmem
      obtain ⟨rfl, rfl⟩ | ⟨rfl, rfl⟩ | ⟨rfl, rfl⟩ | ⟨rfl, rfl⟩ := hmem <;> exact ⟨rfl, rfl⟩
    simp [exec_frameInstr, viewFrame_packFrame, hfam]
  · intro i m hmem
    obtain ⟨rfl, hfam⟩ : i = frameInstr m p spare id data ∧ familyOf m = .responder := by
      simp only [List.mem_cons, Prod.mk.injEq, List.not_mem_nil, or_false] at hmem
      obtain ⟨rfl, rfl⟩ | ⟨rfl, rfl⟩ | ⟨rfl, rfl⟩ | ⟨rfl, rfl⟩ := hmem <;> exact ⟨rfl, rfl⟩
    simp [exec_frameInstr, viewFrame_packFrame, hfam]

end Sys2Proof.Machine
end

section
/-!
PROOFS. The encoder and the decoder undo each other (R60, R61, R70, R72; log entry 4): the selectors by the shape of
their operands, then a command word and a frame word in both directions.
-/

namespace Sys2Proof.Machine

/-! ### The selectors (R70) -/

/-- The selectors that operand bytes follow, by the number of the bytes. -/
theorem operandShape_bytes {sel k : Nat} (h : operandShape sel = some (.bytes k)) :
    (k = 0 ∧ sel ∈ [1, 2, 6, 7, 8]) ∨ (k = 1 ∧ sel = 0) ∨ (k = 8 ∧ sel ∈ [16, 17]) ∨
    (k = 4 ∧ sel ∈ [3, 4, 5, 18, 19, 20, 21, 22, 23, 24, 26, 27, 28, 29, 30, 31]) := by
  unfold operandShape at h
  split at h <;> cases h <;> simp

theorem operandShape_real {sel : Nat} (h : operandShape sel = some .real) : sel = 25 := by
  unfold operandShape at h
  split at h <;> cases h
  rfl

theorem operandShape_reserved {sel : Nat} (h9 : 9 ≤ sel) (h15 : sel ≤ 15) : operandShape sel = none := by
  interval_cases sel <;> rfl

/-! ### Words that the decoder rejects -/

theorem decodeCmd_selectorTooWide {b : Byte} (hb : 32 ≤ b.toNat) (rest : List Byte) :
    decodeCmd (b :: rest) = .error .selectorTooWide := by
  simp [decodeCmd, hb]

theorem decodeRealCmd_selectorTooWide {b : Byte} (hb : 32 ≤ b.toNat) (num : Int) (denPred : Nat) :
    decodeRealCmd b num denPred = .error .selectorTooWide := by
  simp [decodeRealCmd, hb]

theorem decodeCmd_reservedSelector {b : Byte} (hb : b.toNat < 32) (hs : operandShape b.toNat = none)
    (rest : List Byte) : decodeCmd (b :: rest) = .error .reservedSelector := by
  simp [decodeCmd, Nat.not_le.2 hb, hs]

theorem decodeRealCmd_reservedSelector {b : Byte} (hb : b.toNat < 32) (hs : operandShape b.toNat = none) (num : Int)
    (denPred : Nat) : decodeRealCmd b num denPred = .error .reservedSelector := by
  simp [decodeRealCmd, Nat.not_le.2 hb, hs]

/-- Settles O22: the selectors 9 to 15 have no operands, and the width is tested before the selector is looked up. -/
theorem reservedSelectorsAreRejected : Obligations.ReservedSelectorsAreRejected := by
  intro b rest
  constructor
  · intro h9 h15
    have hb : b.toNat < 32 := by omega
    have hs : operandShape b.toNat = none := operandShape_reserved h9 h15
    exact ⟨decodeCmd_reservedSelector hb hs rest, decodeRealCmd_reservedSelector hb hs⟩
  · intro hb
    exact ⟨decodeCmd_selectorTooWide hb rest, decodeRealCmd_selectorTooWide hb⟩

/-! ### From the instruction to its word and back -/

/-- The word of an operation without operands is read back. -/
theorem decode_cmdWord_bare {sel : Nat} {i : Instr} (hs : sel < 32) (hk : operandShape sel = some (.bytes 0))
    (hop : decodeOperation sel 0 = .ok i) : decode (cmdWord sel 0 0) = .ok i :=
  (decodeCmd_cmd sel 0 0 hs hk (by decide)).trans hop

/-- The word of an operation on a frame is read back. -/
theorem decode_frameCmd {sel : Nat} {op : Frame → Instr} (hs : sel < 32) (hk : operandShape sel = some (.bytes 4))
    (hop : ∀ w, decodeOperation sel w = .ok (op (BitVec.ofNat 32 w))) (f : Frame) :
    decode (frameCmd sel f) = .ok (op f) := by
  have h := decodeCmd_cmd sel 4 f.toNat hs hk f.isLt
  rw [hop, BitVec.ofNat_toNat, BitVec.setWidth_eq] at h
  exact h

theorem fitsBuildLanes_iff (ty id data : Nat) :
    fitsBuildLanes ty id data = true ↔ ty < 2 ^ 16 ∧ id < 2 ^ 16 ∧ data < 2 ^ 32 := by
  simp [fitsBuildLanes, and_assoc]

/-- The word of a builder whose operands fit their lanes is read back. -/
theorem decode_buildCmd {sel : Nat} {op : Nat → Nat → Nat → Instr} (hs : sel < 32)
    (hk : operandShape sel = some (.bytes 8))
    (hop : ∀ w, decodeOperation sel w = .ok (op (w % 2 ^ 16) (w / 2 ^ 16 % 2 ^ 16) (w / 2 ^ 32 % 2 ^ 32)))
    {ty id data : Nat} (hfit : fitsBuildLanes ty id data = true) :
    decode (buildCmd sel ty id data) = .ok (op ty id data) := by
  obtain ⟨hty, hid, hdata⟩ := (fitsBuildLanes_iff ty id data).1 hfit
  have h := decodeCmd_cmd sel 8 (ty + 2 ^ 16 * id + 2 ^ 32 * data) hs hk (by omega)
  have hty' : (ty + 2 ^ 16 * id + 2 ^ 32 * data) % 2 ^ 16 = ty := by omega
  have hid' : (ty + 2 ^ 16 * id + 2 ^ 32 * data) / 2 ^ 16 % 2 ^ 16 = id := by omega
  have hdata' : (ty + 2 ^ 16 * id + 2 ^ 32 * data) / 2 ^ 32 % 2 ^ 32 = data := by omega
  rw [hop, hty', hid', hdata'] at h
  exact h

/-- The word of a frame is read back. -/
theorem decode_encode_frameInstr (m : MessageType) (p : Bool) (spare : BitVec 4) (id : BitVec 8)
    (data : BitVec 16) : decode (encode (frameInstr m p spare id data)) = .ok (frameInstr m p spare id data) := by
  obtain ⟨hp, hty, hspare, hid, hdata⟩ := packFrame_fields p (messageTypeCode m) spare id data
  have hw := leNat_leBytes_of_lt 4 _ (packFrame p (messageTypeCode m) spare id data).isLt
  simp only [encode_frameInstr, frameWord, decode, decodeHost, decodeFrame32, leBytes_length, if_true, hw,
    BitVec.ofNat_toNat, BitVec.setWidth_eq, decodeFrameWord_eq, messageTypeOf, typeField, spareField, idField,
    dataField, hp, hty, hspare, hid, hdata, messageTypeOfCode_messageTypeCode]

/-- Settles O20, by the shape of the instruction's operands. -/
theorem decodeReadsWhatEncodeWrites : Obligations.DecodeReadsWhatEncodeWrites := by
  intro i hwf
  cases i with
  | beginOp cb => cases cb <;> rfl
  | endOp | isReady | process | getLastResponse | getLastResponseStatus =>
    exact decode_cmdWord_bare (by decide) rfl rfl
  | sendRequest f | sendRequestAsync f | sendResponse f | parity f | getMessageType f | getDataID f
  | isValidRequest f | isValidResponse f | getUInt f | getFloat f | isFault f | isCentralHeatingActive f
  | isHotWaterActive f | isFlameOn f | isCoolingActive f | isDiagnostic f =>
    exact decode_frameCmd (by decide) rfl (fun _ => rfl) f
  | buildRequest ty id data | buildResponse ty id data =>
    exact decode_buildCmd (by decide) rfl (fun _ => rfl) hwf
  | frameReadData p spare id data => exact decode_encode_frameInstr .readData p spare id data
  | frameWriteData p spare id data => exact decode_encode_frameInstr .writeData p spare id data
  | frameInvalidData p spare id data => exact decode_encode_frameInstr .invalidData p spare id data
  | frameReserved p spare id data => exact decode_encode_frameInstr .reserved p spare id data
  | frameReadAck p spare id data => exact decode_encode_frameInstr .readAck p spare id data
  | frameWriteAck p spare id data => exact decode_encode_frameInstr .writeAck p spare id data
  | frameDataInvalid p spare id data => exact decode_encode_frameInstr .dataInvalid p spare id data
  | frameUnknownDataId p spare id data => exact decode_encode_frameInstr .unknownDataId p spare id data
  | temperatureToData | edge | txHalf | txHalfCompletion | wdg | buildSetBoilerStatusRequest | setBoilerStatus
  | getBoilerTemperature => rfl

/-- Settles O23: each sample is the word of its operation, so O20 reads it back. -/
theorem sampleWordsDecode : Obligations.SampleWordsDecode :=
  ⟨decodeReadsWhatEncodeWrites (.beginOp true) rfl, decodeReadsWhatEncodeWrites .process rfl,
    decodeReadsWhatEncodeWrites (.sendRequestAsync 0x80190000#32) rfl,
    decodeReadsWhatEncodeWrites (.buildRequest 0 25 0x3C80) rfl,
    decodeReadsWhatEncodeWrites (.getFloat 0xC0193C80#32) rfl,
    decodeReadsWhatEncodeWrites (.temperatureToData 121 1) rfl,
    decodeReadsWhatEncodeWrites (.frameReadAck true 0#4 25#8 0x3C80#16) rfl,
    decodeReadsWhatEncodeWrites (.frameWriteData false 0#4 0#8 0x0100#16) rfl⟩

/-! ### From the word to its instruction and back -/

/-- A number of four bytes is written as the frame read from it. -/
theorem frameCmd_ofNat (sel : Nat) {w : Nat} (hw : w < 2 ^ 32) :
    frameCmd sel (BitVec.ofNat 32 w) = cmdWord sel 4 w := by
  rw [frameCmd, BitVec.toNat_ofNat, Nat.mod_eq_of_lt hw]

/-- A number of eight bytes is written as the three lanes read from it. -/
theorem buildCmd_lanes (sel : Nat) {w : Nat} (hw : w < 2 ^ 64) :
    buildCmd sel (w % 2 ^ 16) (w / 2 ^ 16 % 2 ^ 16) (w / 2 ^ 32 % 2 ^ 32) = cmdWord sel 8 w := by
  rw [buildCmd]
  congr 1
  omega

theorem fitsBuildLanes_lanes (w : Nat) :
    fitsBuildLanes (w % 2 ^ 16) (w / 2 ^ 16 % 2 ^ 16) (w / 2 ^ 32 % 2 ^ 32) = true := by
  rw [fitsBuildLanes_iff]
  omega

theorem decodeBegin_ok {w : Nat} {i : Instr} (h : decodeBegin w = .ok i) :
    ∃ cb : Bool, w = cb.toNat ∧ i = .beginOp cb := by
  unfold decodeBegin at h
  split at h <;> cases h
  · exact ⟨false, rfl, rfl⟩
  · exact ⟨true, rfl, rfl⟩

/-- The operation read from a selector and its operand bytes is well formed and is written as them. -/
theorem encode_of_decodeOperation {sel k w : Nat} {i : Instr} (hk : operandShape sel = some (.bytes k))
    (hw : w < 256 ^ k) (h : decodeOperation sel w = .ok i) : WellFormed i = true ∧ encode i = cmdWord sel k w := by
  obtain ⟨rfl, hsel⟩ | ⟨rfl, rfl⟩ | ⟨rfl, hsel⟩ | ⟨rfl, hsel⟩ := operandShape_bytes hk
  · obtain rfl : w = 0 := by omega
    fin_cases hsel <;> cases h <;> exact ⟨rfl, rfl⟩
  · obtain ⟨cb, rfl, rfl⟩ := decodeBegin_ok h
    exact ⟨rfl, rfl⟩
  · fin_cases hsel <;> cases h <;> exact ⟨fitsBuildLanes_lanes w, buildCmd_lanes _ hw⟩
  · fin_cases hsel <;> cases h <;> exact ⟨rfl, frameCmd_ofNat _ hw⟩

/-- A command word that decodes has as many operand bytes as its selector asks for, and the operation is read from
them. -/
theorem decodeCmd_ok {b : Byte} {rest : List Byte} {i : Instr} (h : decodeCmd (b :: rest) = .ok i) :
    operandShape b.toNat = some (.bytes rest.length) ∧ decodeOperation b.toNat (leNat rest) = .ok i := by
  simp only [decodeCmd] at h
  split at h
  · cases h
  · split at h
    · cases h
    · cases h
    · rename_i hk
      split at h
      · rename_i hlen
        exact ⟨hlen ▸ hk, h⟩
      · cases h

theorem decodeRealCmd_ok {b : Byte} {num : Int} {denPred : Nat} {i : Instr} (h : decodeRealCmd b num denPred = .ok i) :
    b = 25#8 ∧ i = .temperatureToData num denPred := by
  simp only [decodeRealCmd] at h
  split at h
  · cases h
  · split at h <;> cases h
    rename_i hs
    exact ⟨BitVec.eq_of_toNat_eq (operandShape_real hs), rfl⟩

theorem decodeFrame32_ok {bytes : List Byte} {i : Instr} (h : decodeFrame32 bytes = .ok i) :
    bytes.length = 4 ∧ i = decodeFrameWord (BitVec.ofNat 32 (leNat bytes)) := by
  unfold decodeFrame32 at h
  split at h <;> cases h
  exact ⟨‹_›, rfl⟩

theorem encode_of_decodeCmd {bytes : List Byte} {i : Instr} (h : decodeCmd bytes = .ok i) :
    WellFormed i = true ∧ encode i = .host (.cmd bytes) := by
  cases bytes with
  | nil => cases h
  | cons b rest =>
    obtain ⟨hk, hop⟩ := decodeCmd_ok h
    obtain ⟨hwf, he⟩ := encode_of_decodeOperation hk (leNat_lt rest) hop
    refine ⟨hwf, he.trans ?_⟩
    rw [cmdWord, leBytes_leNat, BitVec.ofNat_toNat, BitVec.setWidth_eq]

/-- A frame is the word of the instruction it decodes to. -/
theorem encode_decodeFrameWord (f : Frame) : encode (decodeFrameWord f) = .host (.frame32 (leBytes 4 f.toNat)) := by
  rw [decodeFrameWord_eq, encode_frameInstr, messageTypeOf, messageTypeCode_messageTypeOfCode, frameWord, typeField,
    spareField, idField, dataField, packFrame_eta]

theorem encode_of_decodeFrame32 {bytes : List Byte} {i : Instr} (h : decodeFrame32 bytes = .ok i) :
    WellFormed i = true ∧ encode i = .host (.frame32 bytes) := by
  obtain ⟨hlen, rfl⟩ := decodeFrame32_ok h
  have hlt : leNat bytes < 2 ^ 32 := by simpa [hlen] using leNat_lt bytes
  have hbytes : leBytes 4 (leNat bytes) = bytes := hlen ▸ leBytes_leNat bytes
  constructor
  · rw [decodeFrameWord_eq]
    exact wellFormed_frameInstr ..
  · rw [encode_decodeFrameWord, BitVec.toNat_ofNat, Nat.mod_eq_of_lt hlt, hbytes]

/-- Settles O21, by the kinds of words. -/
theorem encodeWritesWhatDecodeRead : Obligations.EncodeWritesWhatDecodeRead := by
  intro w i h
  cases w with
  | signal e => cases e <;> cases h <;> exact ⟨rfl, rfl⟩
  | host w =>
    cases w with
    | cmd bytes => exact encode_of_decodeCmd h
    | realCmd b num denPred =>
      obtain ⟨rfl, rfl⟩ := decodeRealCmd_ok h
      exact ⟨rfl, rfl⟩
    | frame32 bytes => exact encode_of_decodeFrame32 h
    | accessor call => cases call <;> cases h <;> exact ⟨rfl, rfl⟩

end Sys2Proof.Machine
end

section
/-!
PROOFS. A state holding `DELAY` (C6, U3): every agent's step stops but `end`, which leaves it.
-/

namespace Sys2Proof.Machine

/-- Settles O14: an event step is a live step, a protocol operation but `end` and a poll are protocol steps, and the
watchdog does not watch `DELAY`. -/
theorem delayHasNoStepButEnd : Obligations.DelayHasNoStepButEnd := by
  refine ⟨fun i s hs hpure hend => ?_, fun s hs hsync => ?_, fun s hs => ?_⟩
  · cases hev : isEvent i
    · have hprot : isProtocol i = true := by simp [isProtocol, hpure, hev]
      rw [exec_protocol i s hprot hend, protocolStep_of_delay _ s hs]
    · rw [exec_event i s hev, liveStep_of_delay _ s hs]
  · obtain ⟨c, hc⟩ := Option.ne_none_iff_exists'.1 hsync
    simp only [pollSync, hc, protocolStep_of_delay _ s hs]
  · have hdue : watchdogDue (clock s) (quiet s) = false := watchdogDue_of_unwatched _ (by simp [watched, hs])
    rw [exec_end, watchdogFirst_of_not_due _ _ hdue]
    rfl

end Sys2Proof.Machine
end

section
/-!
PROOFS. The codec reads a frame (R102 to R107, R109, R111 to R116): what each operation returns, as arithmetic on the
number the frame is; R118's purity of all of them.
-/

namespace Sys2Proof.Machine

/-! ### The meaning of the operations that read a frame -/

theorem exec_parity (f : Frame) (s : State) :
    exec (.parity f) s = .next { s with out := Outputs.returning (.bool (parityOf f)) } := rfl

theorem exec_getMessageType (f : Frame) (s : State) :
    exec (.getMessageType f) s = .next { s with out := Outputs.returning (.messageType (messageTypeOf f)) } := rfl

theorem exec_getDataID (f : Frame) (s : State) :
    exec (.getDataID f) s = .next { s with out := Outputs.returning (.dataId (idField f)) } := rfl

theorem exec_isValidRequest (f : Frame) (s : State) :
    exec (.isValidRequest f) s = .next { s with out := Outputs.returning (.bool (validIn .requester f)) } := rfl

theorem exec_isValidResponse (f : Frame) (s : State) :
    exec (.isValidResponse f) s = .next { s with out := Outputs.returning (.bool (validIn .responder f)) } := rfl

theorem exec_getUInt (f : Frame) (s : State) :
    exec (.getUInt f) s = .next { s with out := Outputs.returning (.u16 (dataField f)) } := rfl

theorem exec_getFloat (f : Frame) (s : State) :
    exec (.getFloat f) s = .next { s with out := Outputs.returning (.real (floatNumerator f)) } := rfl

/-! ### Purity (R118) -/

/-- A status predicate depends on no parameter but `STATUS_PRED_SHIFT`. -/
theorem statusFlag_congr {c d : Config} (h : d.statusPredShift = c.statusPredShift) (f : Frame) (k : Nat) :
    statusFlag d f k = statusFlag c f k := by
  rw [statusFlag, statusFlag, h]

/-- The status request depends on no parameter but `ID_STATUS`. -/
theorem statusRequest_congr {c d : Config} (h : d.idStatus = c.idStatus) (ch dhw cool otc ch2 : Bool) :
    statusRequest d ch dhw cool otc ch2 = statusRequest c ch dhw cool otc ch2 := by
  rw [statusRequest, statusRequest, h]

/-- A pure step whose result in this state is `r` gives `r` and changes nothing else. -/
theorem pureStep_congr {r q : Result} (h : q = r) (s : State) :
    pureStep q s = .next { s with out := Outputs.returning r } := by
  rw [h, pureStep_eq]

/-- Settles O15: the results read their operands only, but those of the status predicates and of the accessor, which
read one parameter each. -/
theorem pureStepsReadOnlyTheirOperands : Obligations.PureStepsReadOnlyTheirOperands := by
  intro i c hpure
  cases i with
  | isFault f | isCentralHeatingActive f | isHotWaterActive f | isFlameOn f | isCoolingActive f | isDiagnostic f =>
    exact ⟨_, fun s hshift _ => pureStep_congr (congrArg Result.bool (statusFlag_congr hshift f _)) s⟩
  | buildSetBoilerStatusRequest ch dhw cool otc ch2 =>
    exact ⟨_, fun s _ hid => pureStep_congr (congrArg Result.frame (statusRequest_congr hid ch dhw cool otc ch2)) s⟩
  | buildRequest | buildResponse | parity | getMessageType | getDataID | isValidRequest | isValidResponse | getUInt
  | getFloat | temperatureToData | frameReadData | frameWriteData | frameInvalidData | frameReserved | frameReadAck
  | frameWriteAck | frameDataInvalid | frameUnknownDataId =>
    exact ⟨_, fun s _ _ => pureStep_eq _ s⟩
  | beginOp | endOp | isReady | sendRequest | sendRequestAsync | sendResponse | process | getLastResponse
  | getLastResponseStatus | edge | txHalf | txHalfCompletion | wdg | setBoilerStatus | getBoilerTemperature =>
    exact absurd hpure Bool.false_ne_true

/-! ### The fields of a frame -/

theorem typeField_toNat (f : Frame) : (typeField f).toNat = f.toNat / 2 ^ 28 % 8 := by
  rw [typeField, BitVec.extractLsb'_toNat, Nat.shiftRight_eq_div_pow]

theorem idField_eq_ofNat (f : Frame) : idField f = BitVec.ofNat 8 (f.toNat / 2 ^ 16) := by
  rw [idField, BitVec.extractLsb', Nat.shiftRight_eq_div_pow]

theorem dataField_eq_ofNat (f : Frame) : dataField f = BitVec.ofNat 16 f.toNat := by
  rw [dataField, BitVec.extractLsb', Nat.shiftRight_zero]

@[simp] theorem messageTypeCode_messageTypeOf (f : Frame) : messageTypeCode (messageTypeOf f) = typeField f :=
  messageTypeCode_messageTypeOfCode (typeField f)

/-- Settles O27: the type by its code, the other two fields as they are. -/
theorem extractionReadsTheFields : Obligations.ExtractionReadsTheFields := by
  intro f s
  refine ⟨⟨messageTypeOf f, ?_, exec_getMessageType f s⟩, ?_, ?_⟩
  · rw [messageTypeCode_messageTypeOf, typeField_toNat]
  · rw [exec_getDataID, idField_eq_ofNat]
  · rw [exec_getUInt, dataField_eq_ofNat]

/-- The status predicates read one bit of the frame's number. -/
theorem statusFlag_eq_bit (c : Config) (f : Frame) (k : Nat) :
    statusFlag c f k = decide (f.toNat / 2 ^ (c.statusPredShift + k) % 2 = 1) :=
  Nat.testBit_eq_decide_div_mod_eq

/-- Settles O32: each predicate is `statusFlag` of its bit. -/
theorem statusPredicatesReadOneBit : Obligations.StatusPredicatesReadOneBit := by
  intro f s
  simp only [← statusFlag_eq_bit]
  exact ⟨rfl, rfl, rfl, rfl, rfl, rfl⟩

/-! ### Fixed point: the two forms of R109 -/

/-- A word read as signed is 256 times its high byte read as signed plus its low byte (R109). -/
theorem floatNumerator_eq_toInt (f : Frame) : floatNumerator f = (BitVec.ofNat 16 f.toNat).toInt := by
  rw [floatNumerator, BitVec.toInt_eq_toNat_cond, BitVec.toInt_eq_toNat_cond]
  simp only [BitVec.extractLsb'_toNat, BitVec.toNat_ofNat, Nat.shiftRight_eq_div_pow]
  split <;> split <;> omega

/-- Settles O29: the model computes R109's first form, the statement is its second. -/
theorem getFloatIsSignedOver256 : Obligations.GetFloatIsSignedOver256 :=
  fun f s => by rw [exec_getFloat, floatNumerator_eq_toInt]

/-! ### Parity (R102) -/

/-- The XOR over a list of bits is linear. -/
theorem foldl_xor_xor (b c : Nat → Bool) (x y : Bool) (l : List Nat) :
    l.foldl (fun a k => a ^^ (b k ^^ c k)) (x ^^ y) =
      (l.foldl (fun a k => a ^^ b k) x ^^ l.foldl (fun a k => a ^^ c k) y) := by
  induction l generalizing x y with
  | nil => rfl
  | cons k l ih =>
    have hstep : ((x ^^ y) ^^ (b k ^^ c k)) = ((x ^^ b k) ^^ (y ^^ c k)) := by
      rw [Bool.xor_assoc, Bool.xor_assoc, Bool.xor_left_comm y]
    rw [List.foldl_cons, hstep, ih, List.foldl_cons, List.foldl_cons]

/-- The parity of an XOR of frames is the XOR of their parities. -/
theorem parityOf_xor (f g : Frame) : parityOf (f ^^^ g) = (parityOf f ^^ parityOf g) := by
  simp only [parityOf, BitVec.getLsbD_xor]
  exact foldl_xor_xor f.getLsbD g.getLsbD false false _

theorem parityOf_oneBit {k : Nat} (hk : k < 32) : parityOf (1#32 <<< k) = true := by
  interval_cases k <;> rfl

/-- Flipping any one bit flips the parity. -/
theorem parityOf_flip (f : Frame) {k : Nat} (hk : k < 32) : parityOf (f ^^^ (1#32 <<< k)) = !parityOf f := by
  rw [parityOf_xor, parityOf_oneBit hk, Bool.xor_true]

theorem not_parityOf_eq_even_popcount (f : Frame) : (!parityOf f) = decide (popcount f % 2 = 0) := by
  simp [parityOf_eq_odd_popcount, ← decide_not]

/-- Settles O26: parity counts the set bits, and is linear. -/
theorem parityIsOddPopcount : Obligations.ParityIsOddPopcount := by
  refine fun f s => ⟨?_, fun k hk => ?_⟩
  · rw [exec_parity, parityOf_eq_odd_popcount]
  · rw [exec_parity, parityOf_flip f hk, not_parityOf_eq_even_popcount]

/-! ### Validity (R105, R106) -/

/-- The high bit of a code names the family of its type (R62). -/
theorem familyOf_messageTypeOfCode (c : BitVec 3) :
    familyOf (messageTypeOfCode c) = if c.toNat / 4 = 0 then .requester else .responder := by
  revert c
  decide

/-- Frame bit 30 names the family of the frame's type. -/
theorem familyOf_messageTypeOf (f : Frame) :
    familyOf (messageTypeOf f) = if f.toNat / 2 ^ 30 % 2 = 0 then .requester else .responder := by
  have hbit : (typeField f).toNat / 4 = f.toNat / 2 ^ 30 % 2 := by
    rw [typeField_toNat]
    omega
  rw [messageTypeOf, familyOf_messageTypeOfCode, hbit]

theorem validIn_requester (f : Frame) :
    validIn .requester f = decide (popcount f % 2 = 0 ∧ f.toNat / 2 ^ 30 % 2 = 0) := by
  simp [validIn_eq_even_popcount, familyOf_messageTypeOf]

theorem validIn_responder (f : Frame) :
    validIn .responder f = decide (popcount f % 2 = 0 ∧ f.toNat / 2 ^ 30 % 2 = 1) := by
  simp [validIn_eq_even_popcount, familyOf_messageTypeOf]

/-- Settles O28: the number of set bits gives the parity, frame bit 30 the family. -/
theorem validityIsParityAndFamily : Obligations.ValidityIsParityAndFamily :=
  fun f s => ⟨by rw [exec_isValidRequest, validIn_requester], by rw [exec_isValidResponse, validIn_responder]⟩

end Sys2Proof.Machine
end

section
/-!
PROOFS. The codec builds a frame (R100, R101): the fields are where they belong, and the parity bit makes the parity
even.
-/

namespace Sys2Proof.Machine

/-- The parity bit is frame bit 31 (R60). -/
theorem packFrame_flip_parityBit (ty : BitVec 3) (spare : BitVec 4) (id : BitVec 8) (data : BitVec 16) :
    packFrame false ty spare id data ^^^ (1#32 <<< 31) = packFrame true ty spare id data :=
  calc (0#1 ++ ty ++ spare ++ id ++ data) ^^^ (1#1 ++ 0#3 ++ 0#4 ++ 0#8 ++ 0#16)
    _ = (0#1 ^^^ 1#1) ++ (ty ^^^ 0#3) ++ (spare ^^^ 0#4) ++ (id ^^^ 0#8) ++ (data ^^^ 0#16) := by
      simp only [BitVec.xor_append]
    _ = 1#1 ++ ty ++ spare ++ id ++ data := by simp only [BitVec.xor_zero, BitVec.zero_xor]

/-- The parity bit of a frame word takes part in the parity like any other bit (R102). -/
theorem parityOf_packFrame (p : Bool) (ty : BitVec 3) (spare : BitVec 4) (id : BitVec 8) (data : BitVec 16) :
    parityOf (packFrame p ty spare id data) = (p ^^ parityOf (packFrame false ty spare id data)) := by
  cases p with
  | false => rw [Bool.false_xor]
  | true =>
    rw [← packFrame_flip_parityBit, parityOf_flip _ (by decide), Bool.true_xor]

/-- A built frame has even parity. -/
@[simp] theorem parityOf_buildFrame (ty id data : Nat) : parityOf (buildFrame ty id data) = false := by
  rw [buildFrame, parityOf_packFrame, Bool.xor_self]

theorem popcount_buildFrame_even (ty id data : Nat) : popcount (buildFrame ty id data) % 2 = 0 := by
  simpa using not_parityOf_eq_even_popcount (buildFrame ty id data)

/-- Below the parity bit a built frame is its truncated operands in their places (R71). -/
theorem buildFrame_toNat_mod (ty id data : Nat) :
    (buildFrame ty id data).toNat % 2 ^ 31 = ty % 8 * 2 ^ 28 + id % 256 * 2 ^ 16 + data % 65536 := by
  rw [buildFrame, packFrame_toNat]
  simp only [BitVec.toNat_ofNat]
  omega

/-- Settles O24: both builders return `buildFrame`. -/
theorem buildersPlaceFieldsAndEvenParity : Obligations.BuildersPlaceFieldsAndEvenParity :=
  fun ty id data _ =>
    ⟨buildFrame ty id data, rfl, rfl, buildFrame_toNat_mod ty id data, popcount_buildFrame_even ty id data⟩

/-- The fields of a built frame are the truncated operands. -/
theorem buildFrame_fields (ty id data : Nat) :
    typeField (buildFrame ty id data) = BitVec.ofNat 3 ty ∧ idField (buildFrame ty id data) = BitVec.ofNat 8 id ∧
    dataField (buildFrame ty id data) = BitVec.ofNat 16 data := by
  obtain ⟨-, hty, -, hid, hdata⟩ := packFrame_fields _ (BitVec.ofNat 3 ty) 0#4 (BitVec.ofNat 8 id)
    (BitVec.ofNat 16 data)
  exact ⟨hty, hid, hdata⟩

/-- Settles O25: an operand of its field's width is its own truncation. -/
theorem builtFramesReadBack : Obligations.BuiltFramesReadBack := by
  intro m id data s
  obtain ⟨hty, hid, hdata⟩ := buildFrame_fields (messageTypeCode m).toNat id.toNat data.toNat
  refine ⟨_, rfl, ?_, ?_, ?_, ?_⟩
  · rw [exec_parity, parityOf_buildFrame]
  · rw [exec_getMessageType, messageTypeOf, hty]
    simp
  · rw [exec_getDataID, hid]
    simp
  · rw [exec_getUInt, hdata]
    simp

end Sys2Proof.Machine
end

section
/-!
PROOFS. The codec writes a temperature (R108 to R110): the rounding is to the nearest 256th, the clamp is idle in the
range of f8.8.
-/

namespace Sys2Proof.Machine

theorem exec_temperatureToData (num : Int) (denPred : Nat) (s : State) :
    exec (.temperatureToData num denPred) s =
      .next { s with out := Outputs.returning (.u16 (temperatureWord num denPred)) } := rfl

/-- The integer division of the model is the floor of R110. -/
theorem magnitude_eq_floor (n denPred : Nat) :
    (((2 * (n * 256) + (denPred + 1)) / (2 * (denPred + 1)) : Nat) : Int) =
      ⌊(n : ℚ) / ((denPred : ℚ) + 1) * 256 + 1 / 2⌋ := by
  have hx : (n : ℚ) / ((denPred : ℚ) + 1) * 256 + 1 / 2 =
      ((2 * (n * 256) + (denPred + 1) : Nat) : ℚ) / ((2 * (denPred + 1) : Nat) : ℚ) := by
    push_cast
    field_simp
  rw [hx, Rat.floor_natCast_div_natCast, Int.natCast_div]

/-- The rounding of R110 in the words of its pseudocode: the sign of the operand, and the floor of its magnitude plus
one half. -/
theorem roundTo256ths_eq_floor (num : Int) (denPred : Nat) :
    roundTo256ths num denPred =
      if 0 ≤ num then ⌊(num : ℚ) / ((denPred : ℚ) + 1) * 256 + 1 / 2⌋
      else -⌊-((num : ℚ) / ((denPred : ℚ) + 1) * 256) + 1 / 2⌋ := by
  have hmag := magnitude_eq_floor num.natAbs denPred
  by_cases h : 0 ≤ num
  · have hnum : (num.natAbs : ℚ) = num := by rw [Nat.cast_natAbs, abs_of_nonneg h]
    rw [hnum] at hmag
    simp only [roundTo256ths, if_neg (not_lt.2 h), if_pos h, hmag]
  · have hnum : (num.natAbs : ℚ) = -num := by rw [Nat.cast_natAbs, abs_of_neg (not_le.1 h), Int.cast_neg]
    rw [hnum, neg_div, neg_mul] at hmag
    simp only [roundTo256ths, if_pos (not_le.1 h), if_neg h, hmag]

/-- The pattern that is returned reads back as the clamped integer. -/
theorem temperatureWord_toInt (num : Int) (denPred : Nat) :
    (temperatureWord num denPred).toInt = clampS16 (roundTo256ths num denPred) := by
  have hlow : -32768 ≤ clampS16 (roundTo256ths num denPred) := by
    unfold clampS16
    omega
  have hhigh : clampS16 (roundTo256ths num denPred) ≤ 32767 := by
    unfold clampS16
    omega
  exact BitVec.toInt_ofInt_eq_self (by decide) (by simpa using hlow) (by simpa using Int.lt_add_one_of_le hhigh)

/-- Settles O30: the pattern reads back as the clamp of the rounding that R110 writes with a floor. -/
theorem temperatureIsRoundedAndClamped : Obligations.TemperatureIsRoundedAndClamped := by
  refine fun num denPred s => ⟨_, exec_temperatureToData num denPred s, ?_⟩
  rw [temperatureWord_toInt, clampS16, roundTo256ths_eq_floor]

/-- Rounding moves the operand by at most half a 256th, in either direction. -/
theorem abs_roundTo256ths_sub_le (num : Int) (denPred : Nat) :
    |(roundTo256ths num denPred : ℚ) - (num : ℚ) / ((denPred : ℚ) + 1) * 256| ≤ 1 / 2 := by
  rw [roundTo256ths_eq_floor, abs_le]
  generalize (num : ℚ) / ((denPred : ℚ) + 1) * 256 = x
  split
  · have hle := Int.floor_le (x + 1 / 2)
    have hlt := Int.lt_floor_add_one (x + 1 / 2)
    constructor <;> linarith
  · have hle := Int.floor_le (-x + 1 / 2)
    have hlt := Int.lt_floor_add_one (-x + 1 / 2)
    push_cast
    constructor <;> linarith

/-- An integer within one half of a value in the range of `s16` is in that range itself: the bounds are integers, so the
clamp leaves it (R110). -/
theorem clampS16_of_near {n : Int} {x : ℚ} (h : |(n : ℚ) - x| ≤ 1 / 2) (hlow : -32768 ≤ x) (hhigh : x ≤ 32767) :
    clampS16 n = n := by
  obtain ⟨h1, h2⟩ := abs_le.1 h
  have hn1 : ((-32769 : Int) : ℚ) < n := by
    push_cast
    linarith
  have hn2 : (n : ℚ) < ((32768 : Int) : ℚ) := by
    push_cast
    linarith
  rw [Int.cast_lt] at hn1 hn2
  unfold clampS16
  omega

/-- A multiple of 1/256 is its own nearest one. -/
theorem eq_of_abs_sub_le_half {n k : Int} (h : |(n : ℚ) - k| ≤ 1 / 2) : n = k := by
  have hlt : |n - k| < 1 := by
    have hq : ((|n - k| : Int) : ℚ) < ((1 : Int) : ℚ) := by
      push_cast
      linarith
    exact Int.cast_lt.1 hq
  exact sub_eq_zero.1 (Int.abs_lt_one_iff.1 hlt)

/-- Settles O31: in range the word reads back as the rounded operand, which is within half a 256th of it. -/
theorem temperatureRoundTripIsWithin512th : Obligations.TemperatureRoundTripIsWithin512th := by
  intro num denPred s hlow hhigh
  have hnear := abs_roundTo256ths_sub_le num denPred
  refine ⟨_, exec_temperatureToData num denPred s, fun f hf => ⟨roundTo256ths num denPred, ?_, ?_, fun k hk => ?_⟩⟩
  · have hclamp := clampS16_of_near hnear (by linarith) (by linarith)
    rw [exec_getFloat, floatNumerator_eq_toInt, hf, temperatureWord_toInt, hclamp]
  · obtain ⟨h1, h2⟩ := abs_le.1 hnear
    exact abs_le.2 ⟨by linarith, by linarith⟩
  · rw [hk, div_mul_cancel₀ _ (by norm_num)] at hnear
    exact eq_of_abs_sub_le_half hnear

end Sys2Proof.Machine
end

section
/-!
PROOFS. The engine's steps (R133, R134): one half period, the completion step, and the level they leave on the line
whatever else happens meanwhile (R136).
-/

namespace Sys2Proof.Machine

theorem txHalfPeriod_txIdx_toNat {s : State} (hx : s.txIdx.toNat ≤ 67) :
    (txHalfPeriod s).txIdx.toNat = s.txIdx.toNat + 1 := by
  simp [BitVec.toNat_add]
  omega

theorem exec_txHalf_below {s : State} (hs : s.status = .requestSending) (hx : s.txIdx.toNat ≤ 67) :
    exec .txHalf s = .next (txHalfPeriod (quiet s)) := by
  have hlt : s.txIdx.toNat < 68 := by omega
  exact (liveStep_of_live txHalfEffect s (by simp [hs])).trans (by simp [txHalfEffect, hs, hlt])

theorem exec_txHalfCompletion_last {s : State} (hs : s.status = .requestSending) (hx : s.txIdx.toNat = 68) :
    exec .txHalfCompletion s = .next (txComplete (clock s) (quiet s)) :=
  (liveStep_of_live txHalfCompletionEffect s (by simp [hs])).trans (by simp [txHalfCompletionEffect, hs, hx])

/-- The completion row is `TXHALF` at `tx_idx` = 68, whatever the status (R134). -/
theorem exec_txHalf_eq_completion {s : State} (hx : s.txIdx.toNat = 68) :
    exec .txHalf s = exec .txHalfCompletion s := by
  rw [exec_event _ _ rfl, exec_event _ _ rfl, liveStep, liveStep]
  simp only [opEffect, txHalfCompletionEffect_eq (quiet s) hx]

/-! ### The line in a transmission -/

theorem State.WaveformInv.of_not_sending {s : State} (hs : s.status ≠ .requestSending) : s.WaveformInv :=
  fun h => absurd h hs

/-- The first half period of a transmission finds the line at rest, each later one the level before it. -/
theorem State.WaveformInv.write {s t : State} (hi : s.Inv) (h : s.WaveformInv) (hw : CoreWrite s t) :
    t.WaveformInv := by
  cases hw with
  | outside => exact h
  | send f kind hs => exact fun _ => (hi.atRest (by simp [hs])).2
  | halfPeriod hs hx =>
    intro _
    rw [engineLevel, txHalfPeriod_txIdx_toNat hx]
    simp
  | complete hs => exact .of_not_sending (by cases hk : s.txKind <;> simp [hk])
  | dataBit b t hs => exact .of_not_sending (by simp [hs])
  | begin | stop | error | startBit | receive | stopBit | finish => exact .of_not_sending (by simp)

/-- Settles O4: R33's rest level of the line goes with the waveform through every write of the step. -/
theorem stepsKeepTheLineAtTheWaveform : Obligations.StepsKeepTheLineAtTheWaveform := by
  intro s t hi hwave h
  have hkeep (u v : State) (hu : u.Inv ∧ u.WaveformInv) (hw : CoreWrite u v) : v.Inv ∧ v.WaveformInv :=
    ⟨hu.1.write hw, hu.2.write hu.1 hw⟩
  exact ((step_coreWrites h).keep hkeep ⟨hi, hwave⟩).2

/-- The completion step written out: the kind of the transmission chooses the state that follows (R134). -/
theorem txComplete_quiet_eq (t : Nat) (s : State) :
    txComplete t (quiet s) =
      { s with lineOut := .idle, txIdx := 0, rxTs := t,
               status := if s.txKind = .request then .responseWaiting else .ready, out := Outputs.silent } := by
  cases hk : s.txKind <;> simp [txComplete, lineWrite, quiet, hk]

/-- Settles O45: the completion row of the table is its step of the engine. -/
theorem completionEndsTheTransmission : Obligations.CompletionEndsTheTransmission := by
  intro s hs hx
  have hlast : s.txIdx.toNat = 68 := by simp [hx]
  rw [exec_txHalf_eq_completion hlast, exec_txHalfCompletion_last hs hlast, txComplete_quiet_eq]
  exact ⟨rfl, rfl⟩

end Sys2Proof.Machine
end

section
/-!
PROOFS. The timing of R135, R149 and R235: the agent that moves is the first one, so no other is late at its instant,
and its step leaves none late.
-/

namespace Sys2Proof.Machine

/-! ### What keeps every agent on time -/

/-- Where neither the watchdog nor the engine has a step to come, nothing can be late. -/
theorem State.TimingInv.of_rest {s : State} (hv : s.cfg.Valid) (hw : watched s.status = false)
    (hs : s.status ≠ .requestSending) : s.TimingInv where
  valid := hv
  watchdogAhead h := by simp [hw] at h
  engineAhead h := absurd h hs

/-- A bound that starts now has all its time ahead. -/
theorem State.TimingInv.of_bound_restarted {s : State} (hv : s.cfg.Valid) (hr : s.rxTs = clock s)
    (hs : s.status ≠ .requestSending) : s.TimingInv where
  valid := hv
  watchdogAhead _ := by simp [hr]
  engineAhead h := absurd h hs

/-- `TimingInv` reads no queue, no blocked host and no output. -/
theorem State.TimingInv.outside {s : State} (h : s.TimingInv) (line : List LineItem) (host : List HostItem)
    (polls : List Nat) (sync : Option SyncCall) (out : Outputs) :
    State.TimingInv { s with line := line, host := host, polls := polls, sync := sync, out := out } :=
  ⟨h.valid, h.watchdogAhead, h.engineAhead⟩

theorem State.TimingInv.quiet {s : State} (h : s.TimingInv) : (quiet s).TimingInv :=
  h.outside ..

theorem State.TimingInv.giveResult {s : State} (h : s.TimingInv) (r : Result) : (giveResult r s).TimingInv :=
  h.outside ..

theorem State.TimingInv.endSync {s : State} (h : s.TimingInv) (kind : SyncKind) (f : Frame) :
    (endSync kind f s).TimingInv :=
  h.outside ..

theorem State.TimingInv.takeError {s : State} (h : s.TimingInv) (cause : PendCause) (t : Nat) :
    (takeError cause t s).TimingInv :=
  .of_rest h.valid rfl (by simp)

/-- The first half period of a transmission is due at its start (R132, R135). -/
theorem State.TimingInv.txStart {s : State} (h : s.TimingInv) (f : Frame) (kind : TxKind) :
    (txStart f kind (clock s) s).TimingInv where
  valid := h.valid
  watchdogAhead hw := by simp [watched] at hw
  engineAhead _ := by
    have hdue : txInstant (Machine.txStart f kind (clock s) s) = clock s := by simp [txInstant, clock]
    have hnow : clock (Machine.txStart f kind (clock s) s) = clock s := rfl
    rw [hdue, hnow, elapsed_self]
    exact Nat.zero_le _

theorem State.TimingInv.txComplete {s : State} (h : s.TimingInv) : (txComplete (clock s) s).TimingInv :=
  .of_bound_restarted h.valid rfl (by cases hk : s.txKind <;> simp [hk])

theorem tHalf_lt_tTimeout {c : Config} (h : c.Valid) : c.tHalf < c.tTimeout := by
  obtain ⟨-, h2, h3, h4, h5, -⟩ := h
  omega

/-- With the clock at the instant of half period `k`, half period `k + 1` is `T_HALF` away (R135). -/
theorem elapsed_txInstant_txHalfPeriod {s : State} (hv : s.cfg.Valid) (hx : s.txIdx.toNat ≤ 67)
    (ht : clock s = txInstant s) :
    elapsed s.cfg (txInstant (txHalfPeriod s)) (clock s) = s.cfg.tHalf := by
  have hturn : s.cfg.tHalf < 2 ^ s.cfg.wTime := by
    have hbound := two_mul_tTimeout_lt s.cfg hv
    have hhalf := tHalf_lt_tTimeout hv
    omega
  have hnext : txInstant (txHalfPeriod s) = wrapTime s.cfg (clock s + s.cfg.tHalf) := by
    rw [ht, txInstant, txInstant, txHalfPeriod_txIdx_toNat hx, wrapTime_add_left, Nat.succ_mul, ← Nat.add_assoc]
    rfl
  rw [hnext, elapsed_wrapTime_left, elapsed_add_left _ _ _ hturn]

/-- The engine's step at its instant leaves the next one `T_HALF` ahead, or starts the bound of the response. -/
theorem State.TimingInv.txHalfEffect {s : State} (h : s.TimingInv)
    (ht : s.status = .requestSending → clock s = txInstant s) : (txHalfEffect s).TimingInv := by
  obtain ⟨hs, hx, e⟩ | ⟨-, -, e⟩ | ⟨-, e⟩ := txHalfEffect_cases s <;> rw [e]
  · exact
      { valid := h.valid
        watchdogAhead := fun hw => by simp [hs, watched] at hw
        engineAhead := fun _ => (elapsed_txInstant_txHalfPeriod h.valid hx (ht hs)).le }
  · exact h.txComplete
  · exact h

theorem State.TimingInv.watchdogFirst {s : State} (h : s.TimingInv) (t : Nat) : (watchdogFirst t s).TimingInv := by
  obtain ⟨-, e⟩ | ⟨-, e⟩ := watchdogFirst_cases t s <;> rw [e]
  · exact h
  · exact h.takeError _ _

theorem State.TimingInv.beginEffect {s : State} (h : s.TimingInv) (cb : Bool) : (beginEffect cb s).TimingInv := by
  unfold Machine.beginEffect
  split
  · exact .of_rest h.valid rfl (by simp)
  · exact h

theorem State.TimingInv.finalise {s : State} (h : s.TimingInv) : (finalise s).TimingInv := by
  obtain ⟨-, e⟩ | ⟨-, rs, reports, -, e⟩ := finalise_idle_or_delivers s <;> rw [e]
  · exact h
  · exact .of_rest (by simpa using h.valid) (by simp [watched]) (by simp)

theorem State.TimingInv.trySend {s : State} (h : s.TimingInv) (f : Frame) (kind : TxKind) :
    (trySend f kind s).TimingInv := by
  obtain ⟨-, e⟩ | ⟨-, e⟩ := trySend_cases f kind s <;> rw [e]
  · exact (h.txStart f kind).giveResult _
  · exact h.giveResult _

theorem State.TimingInv.startSync {s : State} (h : s.TimingInv) (kind : SyncKind) (f : Frame) :
    (startSync kind f s).TimingInv := by
  obtain ⟨-, e⟩ | ⟨-, e⟩ := startSync_cases kind f s <;> rw [e]
  · exact (h.txStart f .request).outside ..
  · exact h.giveResult _

theorem State.TimingInv.pollCall {s : State} (h : s.TimingInv) (c : SyncCall) : (pollCall c s).TimingInv := by
  obtain ⟨-, e⟩ | ⟨-, -, e⟩ | ⟨-, -, e⟩ := pollCall_cases c s <;> rw [e]
  · exact h.finalise.endSync _ _
  · exact h.endSync _ _
  · exact h

/-- An edge that is handled now leaves the bound as it is, or starts it now, or ends the receive (R144 to R147). -/
theorem State.TimingInv.edgeByStatus {s : State} (h : s.TimingInv) (lvl : Level) :
    (edgeByStatus (clock s) lvl s).TimingInv := by
  obtain e | ⟨-, -, -, e⟩ | ⟨-, e⟩ | ⟨-, -, -, e⟩ | ⟨-, e⟩ | ⟨hs, -, -, e⟩ | ⟨-, -, -, -, e⟩ :=
    edgeByStatus_cases (clock s) lvl s <;> rw [e]
  · exact h
  · exact .of_bound_restarted h.valid rfl (by simp)
  · exact .of_bound_restarted h.valid rfl (by simp)
  · exact .of_bound_restarted h.valid rfl (by simp)
  · exact h.takeError _ _
  · exact .of_bound_restarted h.valid rfl (by simp [hs])
  · exact .of_rest h.valid rfl (by simp)

theorem State.TimingInv.edgeHandler {s : State} (h : s.TimingInv) (lvl : Level) :
    (edgeHandler (clock s) lvl s).TimingInv := by
  cases hirq : s.irqEn
  · rw [edgeHandler_detached _ lvl s hirq]
    exact h
  · have hclock : wrapTime s.cfg (clock s) = clock s := wrapTime_wrapTime _ _
    have hedge := (h.watchdogFirst (clock s)).edgeByStatus lvl
    rw [clock_watchdogFirst] at hedge
    rw [edgeHandler_attached _ lvl s hirq, hclock]
    exact hedge

/-- The watchdog's step fires, or finds its bound not yet passed. -/
theorem timingInv_wdgEffect {s : State} (hv : s.cfg.Valid) (hw : watched s.status = true) :
    (wdgEffect s).TimingInv := by
  unfold wdgEffect
  split
  · exact .of_rest hv rfl (by simp)
  · rename_i hdue
    exact
      { valid := hv
        watchdogAhead := fun _ => by simpa [watchdogDue, hw] using hdue
        engineAhead := fun hs => by simp [hs, watched] at hw }

/-! ### Instructions and polls -/

/-- No operation of the host is late for another agent: it starts a transmission now, or it enters no watched state. -/
theorem State.TimingInv.opEffect {s : State} (h : s.TimingInv) (c : Config) {i : Instr} (hi : isEvent i = false) :
    (opEffect c i s).TimingInv := by
  cases i with
  | beginOp cb => exact h.beginEffect cb
  | endOp => exact .of_rest h.valid rfl (by simp [Machine.opEffect])
  | isReady => exact h.giveResult _
  | sendRequest f => exact h.startSync _ f
  | sendRequestAsync f => exact h.trySend f _
  | sendResponse f => exact h.trySend f _
  | process => exact h.finalise
  | getLastResponse => exact h.giveResult _
  | getLastResponseStatus => exact h.giveResult _
  | setBoilerStatus ch dhw cool otc ch2 => exact h.startSync ..
  | getBoilerTemperature => exact h.startSync ..
  | edge | txHalf | txHalfCompletion | wdg => simp [isEvent] at hi
  | _ => exact h

theorem State.TimingInv.exec_host {s t : State} (h : s.TimingInv) {i : Instr} (hi : isEvent i = false)
    (hx : exec i s = .next t) : t.TimingInv := by
  obtain ⟨-, r, rfl⟩ | ⟨hevent, -, -⟩ | ⟨-, -, rfl⟩ := exec_next_cases hx
  · exact h.outside ..
  · simp [hi] at hevent
  · exact (h.quiet.watchdogFirst _).opEffect _ hi

theorem State.TimingInv.pollSync {s t : State} (h : s.TimingInv) (hp : pollSync s = .next t) : t.TimingInv := by
  unfold Machine.pollSync at hp
  split at hp
  · cases hp
    exact h.quiet
  · obtain ⟨-, rfl⟩ := (protocolStep_next_iff _ _ _).1 hp
    exact (h.quiet.watchdogFirst _).pollCall _

theorem State.TimingInv.exec_edge {s t : State} (h : s.TimingInv) {lvl : Level}
    (hx : exec (.edge (clock s) lvl) s = .next t) : t.TimingInv := by
  rw [exec_event _ s rfl, liveStep_next_iff] at hx
  exact hx.2 ▸ h.quiet.edgeHandler lvl

theorem State.TimingInv.exec_txHalf {s t : State} (h : s.TimingInv)
    (ht : s.status = .requestSending → clock s = txInstant s) (hx : exec .txHalf s = .next t) : t.TimingInv := by
  rw [exec_event _ s rfl, liveStep_next_iff] at hx
  exact hx.2 ▸ h.quiet.txHalfEffect ht

theorem timingInv_of_exec_wdg {s t : State} (hv : s.cfg.Valid) (hw : watched s.status = true)
    (hx : exec .wdg s = .next t) : t.TimingInv := by
  rw [exec_event _ s rfl, liveStep_next_iff] at hx
  exact hx.2 ▸ timingInv_wdgEffect (s := Machine.quiet s) hv hw

/-! ### The instants of the agents -/

theorem watchdogTime_eq_some_iff {s : State} {n : Nat} :
    watchdogTime s = some n ↔ watched s.status = true ∧ s.now + untilExceeds s.cfg.tTimeout s.rxTs s = n := by
  cases hw : watched s.status <;> simp [watchdogTime, hw]

theorem clock_atTime_add (s : State) (d : Nat) : clock (atTime (s.now + d) s) = wrapTime s.cfg (clock s + d) := by
  simp [clock]

/-- Before the watchdog's instant its bound has not passed (R149). -/
theorem elapsed_le_tTimeout_of_lt {s : State} (h : s.TimingInv) (hw : watched s.status = true) {n : Nat}
    (hnow : s.now ≤ n) (hn : ∀ m, watchdogTime s = some m → n < m) :
    elapsed s.cfg (clock (atTime n s)) s.rxTs ≤ s.cfg.tTimeout := by
  obtain ⟨d, rfl⟩ := Nat.exists_eq_add_of_le hnow
  have hlt := hn _ (watchdogTime_eq_some_iff.2 ⟨hw, rfl⟩)
  have hahead := h.watchdogAhead hw
  have hturn := two_mul_tTimeout_lt s.cfg h.valid
  unfold untilExceeds at hlt
  rw [clock_atTime_add, elapsed_wrapTime_left, elapsed_add _ _ _ _ (by omega)]
  omega

/-- An engine that is on time steps when the clock shows the instant of its half period (R135). -/
theorem untilClock_txInstant {s : State} (h : s.TimingInv) (hs : s.status = .requestSending) :
    untilClock (txInstant s) s = elapsed s.cfg (txInstant s) (clock s) := by
  have hahead := h.engineAhead hs
  have hturn := (half_turn s.cfg h.valid).1
  have hhalf := tHalf_lt_tTimeout h.valid
  exact if_pos (by omega)

/-- The engine's instant, while a transmission runs. -/
theorem engineTime_sending {s : State} (hi : s.Inv) (h : s.TimingInv) (hs : s.status = .requestSending) :
    engineTime s = some (s.now + elapsed s.cfg (txInstant s) (clock s)) := by
  rw [← untilClock_txInstant h hs]
  exact if_pos ⟨hs, by simpa using hi.txIdxBound⟩

/-- Up to the engine's instant its half period lies ahead, and nearer than before (R135). -/
theorem elapsed_txInstant_le {s : State} (hi : s.Inv) (h : s.TimingInv) (hs : s.status = .requestSending) {n : Nat}
    (hnow : s.now ≤ n) (hn : ∀ m, engineTime s = some m → n ≤ m) :
    elapsed s.cfg (txInstant s) (clock (atTime n s)) ≤ s.cfg.tHalf := by
  obtain ⟨d, rfl⟩ := Nat.exists_eq_add_of_le hnow
  have hle := hn _ (engineTime_sending hi h hs)
  have hahead := h.engineAhead hs
  rw [clock_atTime_add, elapsed_wrapTime_right, elapsed_sub _ _ _ _ (by omega)]
  omega

/-- The clock shows the instant of the half period after the time to it has passed. -/
theorem clock_at_txInstant (s : State) :
    clock (atTime (s.now + elapsed s.cfg (txInstant s) (clock s)) s) = txInstant s := by
  rw [clock_atTime_add, wrapTime_add_elapsed]
  exact wrapTime_wrapTime _ _

/-- Every agent but the watchdog moves while all agents are on time. -/
theorem State.TimingInv.atTime {s : State} (hi : s.Inv) (h : s.TimingInv) {n : Nat} {a : Agent}
    (ha : agentTime a s = some n) (hwd : a ≠ .watchdog)
    (hfirst : ∀ b m, agentTime b s = some m → n < m ∨ (n = m ∧ agentRank a ≤ agentRank b)) :
    (atTime n s).TimingInv where
  valid := h.valid
  watchdogAhead hw := by
    refine elapsed_le_tTimeout_of_lt h hw (now_le_agentTime ha) fun m hm => ?_
    have hrank : 0 < agentRank a := by cases a <;> simp [agentRank] at hwd ⊢
    obtain hlt | ⟨-, hle⟩ := hfirst .watchdog m hm
    · exact hlt
    · exact absurd hle (Nat.not_le.2 hrank)
  engineAhead hs := by
    refine elapsed_txInstant_le hi h hs (now_le_agentTime ha) fun m hm => ?_
    have := hfirst .engine m hm
    omega

/-- Settles O5: the agent that moves is at its own instant, and every other agent's lies ahead. -/
theorem stepsKeepEveryAgentOnTime : Obligations.StepsKeepEveryAgentOnTime := by
  intro s t hi h hstep
  obtain ⟨hnone, rfl⟩ | ⟨n, a, ha, hfirst, hmove⟩ := step_next_cases hstep
  · refine .of_rest h.valid ?_ fun hs => ?_
    · have := hnone .watchdog
      simpa [agentTime, watchdogTime] using this
    · have := (engineTime_sending hi h hs).symm.trans (hnone .engine)
      simp at this
  · have hat (hwd : a ≠ .watchdog) : (atTime n s).TimingInv := State.TimingInv.atTime hi h ha hwd hfirst
    have hengine (he : a = .engine) (hs : s.status = .requestSending) : clock (atTime n s) = txInstant s := by
      subst he
      rw [Option.some.inj (ha.symm.trans (engineTime_sending hi h hs))]
      exact clock_at_txInstant s
    obtain ⟨rfl, hx⟩ | ⟨e, rest, rfl, -, hx⟩ | ⟨rfl, h68, hx⟩ | ⟨rfl, -, hx⟩ | ⟨x, rest, i, rfl, -, -, hd, hx⟩ |
      ⟨rfl, -, hp⟩ := hmove
    · exact timingInv_of_exec_wdg (s := atTime n s) h.valid (watchdogTime_eq_some_iff.1 ha).1 hx
    · exact ((hat (by simp)).outside ..).exec_edge hx
    · rw [← exec_txHalf_eq_completion (s := atTime n s) h68] at hx
      exact (hat (by simp)).exec_txHalf (hengine rfl) hx
    · exact (hat (by simp)).exec_txHalf (hengine rfl) hx
    · exact ((hat (by simp)).outside ..).exec_host (decodeHost_not_event _ _ hd) hx
    · exact ((hat (by simp)).outside ..).pollSync hp

end Sys2Proof.Machine
end

section
/-!
PROOFS. The waveform of a frame (R66, R67, R131, R136), and the run of the engine over it (R130, R133 to R135).
-/

namespace Sys2Proof.Machine

/-! ### The line frame (R66) -/

/-- Line bit `j` by its place in the line frame: the start bit, the frame, the stop bit (R66). -/
theorem lineBit_eq (f : Frame) {j : Nat} (hj : j ≤ 33) :
    lineBit f j = if j = 0 ∨ j = 33 then true else f.getLsbD (32 - j) := by
  have happend : lineBit f j = (1#1 ++ f ++ 1#1 : BitVec (1 + 32 + 1)).getLsbD (33 - j) := rfl
  rw [happend, BitVec.getLsbD_append, BitVec.getLsbD_append]
  have hlast : 33 - j < 1 ↔ j = 33 := by omega
  have hplace : 33 - j - 1 = 32 - j := by omega
  by_cases h0 : j = 0
  · subst h0
    rfl
  · by_cases h33 : j = 33
    · subst h33
      rfl
    · simp [h0, h33, hlast, hplace]

theorem lineBit_ends (f : Frame) {j : Nat} (hj : j = 0 ∨ j = 33) : lineBit f j = true := by
  rw [lineBit_eq f (by omega), if_pos hj]

theorem lineBit_between (f : Frame) {j : Nat} (hlow : 1 ≤ j) (hhigh : j ≤ 32) :
    lineBit f j = f.getLsbD (32 - j) := by
  rw [lineBit_eq f (by omega), if_neg (by omega)]

/-! ### The half periods (R67, R131) -/

theorem halfLevel_even (f : Frame) (j : Nat) : halfLevel f (2 * j) = firstHalf (lineBit f j) := by
  simp [halfLevel]

theorem halfLevel_odd (f : Frame) (j : Nat) : halfLevel f (2 * j + 1) = secondHalf (lineBit f j) := by
  have hmod : ¬ (2 * j + 1) % 2 = 0 := by omega
  have hdiv : (2 * j + 1) / 2 = j := by omega
  rw [halfLevel, if_neg hmod, hdiv]

/-- The level of a half period by its half and its bit: `ACTIVE` in the first half of a 1 and the second of a 0. -/
theorem halfLevel_eq (f : Frame) (k : Nat) :
    halfLevel f k = if (k % 2 = 0 ↔ lineBit f (k / 2) = true) then .active else .idle := by
  by_cases hk : k % 2 = 0 <;> cases hb : lineBit f (k / 2) <;> simp [halfLevel, firstHalf, secondHalf, hk, hb]

/-- A bit cell has its transition in the middle (R67). -/
theorem firstHalf_ne_secondHalf (b : Bool) : firstHalf b ≠ secondHalf b := by
  cases b <;> simp [firstHalf, secondHalf]

/-- Two bit cells have a transition between them exactly when their bits are equal (R136). -/
theorem secondHalf_ne_firstHalf_iff (a b : Bool) : secondHalf a ≠ firstHalf b ↔ a = b := by
  cases a <;> cases b <;> simp [firstHalf, secondHalf]

/-- One half of every bit cell is `ACTIVE` (R136). -/
theorem countP_active_halves (f : Frame) (n : Nat) :
    (List.range (2 * n)).countP (fun k => decide (halfLevel f k = .active)) = n := by
  induction n with
  | zero => rfl
  | succ n ih =>
    have hcell : (if firstHalf (lineBit f n) = .active then 1 else 0) +
        (if secondHalf (lineBit f n) = .active then 1 else 0) = 1 := by
      cases lineBit f n <;> rfl
    rw [show 2 * (n + 1) = 2 * n + 1 + 1 by omega, List.range_succ, List.range_succ]
    simp only [List.countP_append, List.countP_singleton, ih, halfLevel_even, halfLevel_odd, decide_eq_true_eq]
    omega

/-- Settles O46: the transitions by bit cells, the number of `ACTIVE` halves by induction on the cells. -/
theorem waveformIsBalancedManchester : Obligations.WaveformIsBalancedManchester := by
  refine fun f => ⟨countP_active_halves f 34, fun j _ => ?_, fun j hj _ => ?_, ?_, ?_⟩
  · rw [halfLevel_even, halfLevel_odd]
    exact firstHalf_ne_secondHalf _
  · rw [show 2 * j - 1 = 2 * (j - 1) + 1 by omega, halfLevel_odd, halfLevel_even]
    exact secondHalf_ne_firstHalf_iff _ _
  · rw [halfLevel_even f 0, lineBit_ends f (.inl rfl)]
    rfl
  · rw [halfLevel_odd f 33, lineBit_ends f (.inr rfl)]
    rfl

/-! ### One half period, and all of them -/

theorem txHalfPeriod_quiet_eq (s : State) :
    txHalfPeriod (quiet s) =
      { s with lineOut := halfLevel s.txFrame s.txIdx.toNat, txIdx := BitVec.ofNat 7 (s.txIdx.toNat + 1),
               out := Outputs.silent } := by
  rw [BitVec.ofNat_add, BitVec.ofNat_toNat, BitVec.setWidth_eq]
  rfl

/-- Settles O44: the bit is the line bit of the half period's cell. -/
theorem halfPeriodsDriveTheBitCells : Obligations.HalfPeriodsDriveTheBitCells := by
  refine fun s hs hx => ⟨lineBit s.txFrame (s.txIdx.toNat / 2), lineBit_ends _, lineBit_between _, ?_⟩
  rw [exec_txHalf_below hs hx, txHalfPeriod_quiet_eq, halfLevel_eq]

theorem runEngine_succ (k : Nat) {s u : State} {n : Nat} (hn : n = s.now + elapsed s.cfg (txInstant s) (clock s))
    (h : exec .txHalf (atTime n s) = .next u) : runEngine (k + 1) s = runEngine k u := by
  rw [runEngine, ← hn, h]

theorem clock_txHalfPeriod (s : State) : clock (txHalfPeriod s) = clock s := rfl

/-- The completion step overwrites the level and the count that a half period before it left (R134). -/
theorem txComplete_after_halfPeriod (t n m : Nat) (s : State) :
    txComplete t (quiet (atTime n (txHalfPeriod (quiet (atTime m s))))) = txComplete t (quiet (atTime n s)) := by
  simp only [txComplete, lineWrite, quiet, atTime, txHalfPeriod]

/-- With `m` half periods to come, the engine's steps at their instants end the transmission `m` half periods after
the first of them. -/
theorem runEngine_of_remaining (m : Nat) {s : State} (hv : s.cfg.Valid) (hs : s.status = .requestSending)
    (hx : s.txIdx.toNat + m = 68) {n : Nat} (hn : n = s.now + elapsed s.cfg (txInstant s) (clock s)) :
    runEngine (m + 1) s =
      .next (txComplete (wrapTime s.cfg (n + m * s.cfg.tHalf)) (quiet (atTime (n + m * s.cfg.tHalf) s))) := by
  induction m generalizing s n with
  | zero =>
    rw [Nat.zero_mul, Nat.add_zero, ← clock_atTime]
    exact runEngine_succ 0 hn ((exec_txHalf_eq_completion (s := atTime n s) hx).trans
      (exec_txHalfCompletion_last (s := atTime n s) hs hx))
  | succ m ih =>
    have hbelow : s.txIdx.toNat ≤ 67 := by omega
    have hat : clock (atTime n s) = txInstant s := hn ▸ clock_at_txInstant s
    have hgap := elapsed_txInstant_txHalfPeriod (s := quiet (atTime n s)) hv hbelow hat
    have hidx := txHalfPeriod_txIdx_toNat (s := quiet (atTime n s)) hbelow
    have hrest := ih (s := txHalfPeriod (quiet (atTime n s))) (n := n + s.cfg.tHalf) hv hs
      (by rw [hidx, quiet_txIdx, atTime_txIdx]; omega)
      (by rw [clock_txHalfPeriod, txHalfPeriod_cfg, hgap]; rfl)
    rw [txComplete_after_halfPeriod] at hrest
    rw [runEngine_succ _ hn (exec_txHalf_below (s := atTime n s) hs hbelow), hrest, Nat.succ_mul,
      Nat.add_comm (m * s.cfg.tHalf), ← Nat.add_assoc]
    rfl

/-- Settles O47: at the start all 68 half periods are to come, the first of them now. -/
theorem transmissionTakes68HalfPeriods : Obligations.TransmissionTakes68HalfPeriods := by
  intro s hv hs hx ht
  have hfirst : elapsed s.cfg (txInstant s) (clock s) = 0 := by simp [txInstant, hx, ht]
  rw [runEngine_of_remaining 68 hv hs (by simp [hx]) rfl, hfirst, Nat.add_zero, txComplete_quiet_eq]
  rfl

end Sys2Proof.Machine
end

section
/-!
PROOFS. What an edge writes and where it is not heard (R140, R143, R212); the watchdog's step, due and not due (R149).
-/

namespace Sys2Proof.Machine

/-! ### What an edge writes (R140, R212) -/

/-- The state with everything reset that an edge may write: the five receive elements and the error reports. -/
def withoutReceive (s : State) : State :=
  { s with status := .ready, rxShift := 0#32, bitIdx := 0#6, rxTs := 0, pendCause := .framing,
           out := { s.out with reports := [] } }

/-- States that differ in the receive side only, in the words of the statement. -/
theorem eq_of_withoutReceive_eq {s u : State} (h : withoutReceive u = withoutReceive s) :
    u = { s with status := u.status, rxShift := u.rxShift, bitIdx := u.bitIdx, rxTs := u.rxTs,
                 pendCause := u.pendCause, out := u.out } :=
  calc u = { withoutReceive u with status := u.status, rxShift := u.rxShift, bitIdx := u.bitIdx, rxTs := u.rxTs,
                                   pendCause := u.pendCause, out := u.out } := rfl
    _ = _ := by rw [h]; rfl

@[simp] theorem withoutReceive_watchdogFirst (t : Nat) (s : State) :
    withoutReceive (watchdogFirst t s) = withoutReceive s := by
  obtain ⟨-, e⟩ | ⟨-, e⟩ := watchdogFirst_cases t s
  · rw [e]
  · rw [e]
    rfl

@[simp] theorem withoutReceive_edgeByStatus (t : Nat) (lvl : Level) (s : State) :
    withoutReceive (edgeByStatus t lvl s) = withoutReceive s := by
  obtain e | ⟨-, -, -, e⟩ | ⟨-, e⟩ | ⟨-, -, -, e⟩ | ⟨-, e⟩ | ⟨-, -, -, e⟩ | ⟨-, -, -, -, e⟩ :=
    edgeByStatus_cases t lvl s <;> rw [e] <;> rfl

@[simp] theorem withoutReceive_edgeHandler (t : Nat) (lvl : Level) (s : State) :
    withoutReceive (edgeHandler t lvl s) = withoutReceive s := by
  cases h : s.irqEn
  · rw [edgeHandler_detached t lvl s h]
  · rw [edgeHandler_attached t lvl s h, withoutReceive_edgeByStatus, withoutReceive_watchdogFirst]

/-- Settles O11: the handler writes the receive side of a state that begins its step with no outputs. -/
theorem edgeWritesOnlyTheReceiveElements : Obligations.EdgeWritesOnlyTheReceiveElements := by
  intro t lvl s u h
  rw [exec_event _ s rfl, liveStep_next_iff] at h
  have he : withoutReceive u = withoutReceive (quiet s) := h.2 ▸ withoutReceive_edgeHandler t lvl (quiet s)
  exact ⟨eq_of_withoutReceive_eq (s := quiet s) he, congrArg (fun v => v.out.result) he,
    congrArg (fun v => v.out.callback) he⟩

/-! ### Edges that are not heard (R143), the engine at rest -/

theorem exec_edge_live (t : Nat) (lvl : Level) {s : State} (hd : s.status ≠ .delay) :
    exec (.edge t lvl) s = .next (edgeHandler t lvl (quiet s)) :=
  liveStep_of_live _ s hd

/-- The handler acts in no state of a transmission and in none that waits for `process`; the watchdog neither. -/
theorem edgeHandler_of_unheard (t : Nat) (lvl : Level) {s : State}
    (hs : s.status = .requestSending ∨ s.status = .responseReady ∨ s.status = .responseInvalid) :
    edgeHandler t lvl s = s := by
  have hw : watched s.status = false := by rcases hs with h | h | h <;> rw [h] <;> rfl
  have harm : edgeByStatus (wrapTime s.cfg t) lvl s = s := by rcases hs with h | h | h <;> simp [edgeByStatus, h]
  cases h : s.irqEn
  · exact edgeHandler_detached t lvl s h
  · rw [edgeHandler_attached t lvl s h, watchdogFirst_of_not_due _ _ (watchdogDue_of_unwatched _ hw), harm]

theorem exec_txHalf_at_rest {s : State} (hd : s.status ≠ .delay) (hs : s.status ≠ .requestSending) :
    exec .txHalf s = .next (quiet s) :=
  (liveStep_of_live txHalfEffect s hd).trans (by simp [txHalfEffect, hs])

theorem exec_txHalfCompletion_at_rest {s : State} (hd : s.status ≠ .delay) (hs : s.status ≠ .requestSending) :
    exec .txHalfCompletion s = .next (quiet s) :=
  (liveStep_of_live txHalfCompletionEffect s hd).trans (by simp [txHalfCompletionEffect, hs])

/-! ### The watchdog's step (R149) -/

theorem watchdogDue_of_within {t : Nat} {s : State} (h : elapsed s.cfg t s.rxTs ≤ s.cfg.tTimeout) :
    watchdogDue t s = false := by
  simp [watchdogDue, h]

theorem ne_of_watched {s : State} {st : DriverStatus} (h : watched s.status = true) (hst : watched st = false) :
    s.status ≠ st := by
  intro hs
  simp [hs, hst] at h

theorem exec_wdg_due {s : State} (h : watchdogDue (clock s) s = true) :
    exec .wdg s = .next (takeError .timeout (clock s) (quiet s)) :=
  (liveStep_of_live wdgEffect s (ne_of_watched ((watchdogDue_iff _ s).1 h).1 rfl)).trans (by simp [wdgEffect, h])

theorem exec_wdg_not_due {s : State} (hd : s.status ≠ .delay) (h : watchdogDue (clock s) s = false) :
    exec .wdg s = .next (quiet s) :=
  (liveStep_of_live wdgEffect s hd).trans (by simp [wdgEffect, h])

/-- Settles O48: the handler drops the edge; the engine is at rest and the watchdog not due where a receive has
ended. -/
theorem edgesAreDroppedWhereNothingIsHeard : Obligations.EdgesAreDroppedWhereNothingIsHeard := by
  intro t lvl s
  refine ⟨fun hirq hd => ?_, fun hs => ?_, fun hs => ?_⟩
  · rw [exec_edge_live t lvl hd, edgeHandler_detached t lvl (quiet s) hirq]
    rfl
  · rw [exec_edge_live t lvl (by simp [hs]), edgeHandler_of_unheard t lvl (s := quiet s) (.inl hs)]
    rfl
  · have hd : s.status ≠ .delay := by rcases hs with h | h <;> simp [h]
    have hrest : s.status ≠ .requestSending := by rcases hs with h | h <;> simp [h]
    have hw : watched s.status = false := by rcases hs with h | h <;> rw [h] <;> rfl
    rw [exec_edge_live t lvl hd, edgeHandler_of_unheard t lvl (s := quiet s) (.inr hs), exec_txHalf_at_rest hd hrest,
      exec_txHalfCompletion_at_rest hd hrest, exec_wdg_not_due hd (watchdogDue_of_unwatched _ hw)]
    exact ⟨rfl, rfl, rfl, rfl⟩

/-- Settles O52: the watchdog is due or it is not. -/
theorem watchdogEndsAStalledReceive : Obligations.WatchdogEndsAStalledReceive := by
  refine fun s => ⟨fun hs hlate => ?_, fun hd h => ?_⟩
  · rw [exec_wdg_due ((watchdogDue_iff _ s).2 ⟨(watched_iff _).2 hs, hlate⟩)]
    rfl
  · rw [exec_wdg_not_due hd (h.elim (watchdogDue_of_unwatched _) watchdogDue_of_within)]
    rfl

end Sys2Proof.Machine
end

section
/-!
PROOFS. The watchdog is urgent (R149): its instant in the order of agents, and what the clock shows there.
-/

namespace Sys2Proof.Machine

/-- The transmit engine has no step while a receive is watched. -/
theorem engineTime_of_watched {s : State} (hw : watched s.status = true) : engineTime s = none :=
  if_neg fun h => ne_of_watched hw rfl h.1

/-- The watchdog moves next when it is on time and no transition and no host step comes before it (R208). -/
theorem step_watchdog {s : State} {n : Nat} (hn : watchdogTime s = some n) (hl : ∀ u ∈ lineTime s, n ≤ u)
    (hh : ∀ u ∈ hostTime s, n ≤ u) : step s = exec .wdg (atTime n s) := by
  have hengine := engineTime_of_watched (watchdogTime_eq_some_iff.1 hn).1
  have hnext : nextAgent s = some (n, .watchdog) := by
    refine nextAgent_eq_of_first hn fun b m hb => ?_
    have hle : n ≤ m := by
      cases b with
      | watchdog => exact (Option.some.inj (hn.symm.trans hb)).le
      | line => exact hl m hb
      | engine => simp [agentTime, hengine] at hb
      | host => exact hh m hb
    exact (Nat.lt_or_eq_of_le hle).imp_right fun h => ⟨h, Nat.zero_le _⟩
  simp [step, nextMove, hnext]

/-- At its instant the watchdog's bound is passed by one microsecond, and the clock shows it (R149). -/
theorem watchdog_at_its_instant {s : State} {n : Nat} (h : s.TimingInv) (hn : watchdogTime s = some n) :
    watchdogDue (clock (atTime n s)) (atTime n s) = true ∧
    clock (atTime n s) = wrapTime s.cfg (s.rxTs + (s.cfg.tTimeout + 1)) := by
  obtain ⟨hw, rfl⟩ := watchdogTime_eq_some_iff.1 hn
  have hahead := h.watchdogAhead hw
  have hturn := two_mul_tTimeout_lt s.cfg h.valid
  have hpast : elapsed s.cfg (clock s + untilExceeds s.cfg.tTimeout s.rxTs s) s.rxTs = s.cfg.tTimeout + 1 := by
    unfold untilExceeds
    rw [elapsed_add _ _ _ _ (by omega)]
    omega
  rw [watchdogDue_iff, clock_atTime_add, atTime_cfg, atTime_rxTs, elapsed_wrapTime_left, hpast]
  exact ⟨⟨hw, Nat.lt_succ_self _⟩, by rw [← hpast, wrapTime_add_elapsed]⟩

/-- Settles O19: the next step is the watchdog's, and it writes what the clock shows at its instant. -/
theorem watchdogFiresOneMicrosecondPastTheBound : Obligations.WatchdogFiresOneMicrosecondPastTheBound := by
  intro s h hw hl hh
  have hn := watchdogTime_eq_some_iff.2 ⟨hw, rfl⟩
  obtain ⟨hdue, hclock⟩ := watchdog_at_its_instant h hn
  rw [step_watchdog hn hl hh, exec_wdg_due hdue, hclock]
  rfl

end Sys2Proof.Machine
end

section
/-!
PROOFS. The arms of the edge handler (R142, R144 to R148), each with the interrupt attached and the watchdog not due.
-/

namespace Sys2Proof.Machine

/-! ### An edge that the watchdog does not precede -/

/-- An attached edge before the watchdog's instant is the arm of its status. -/
theorem exec_edge_on_time {t : Nat} (lvl : Level) {s : State} (hirq : s.irqEn = true) (hd : s.status ≠ .delay)
    (hw : watchdogDue t s = false) :
    exec (.edge t lvl) s = .next (edgeByStatus (wrapTime s.cfg t) lvl (quiet s)) := by
  have hw' : watchdogDue (wrapTime s.cfg t) (quiet s) = false := by simpa [watchdogDue] using hw
  rw [exec_edge_live t lvl hd, edgeHandler_attached t lvl (quiet s) hirq, quiet_cfg, watchdogFirst_of_not_due _ _ hw']

theorem exec_edge_ready (t : Nat) (lvl : Level) {s : State} (hirq : s.irqEn = true) (hs : s.status = .ready) :
    exec (.edge t lvl) s = .next (edgeInReady (wrapTime s.cfg t) lvl (quiet s)) := by
  rw [exec_edge_on_time lvl hirq (by simp [hs]) (watchdogDue_of_unwatched t (by rw [hs]; rfl))]
  simp only [edgeByStatus, quiet_status, hs]

theorem exec_edge_waiting {t : Nat} (lvl : Level) {s : State} (hirq : s.irqEn = true)
    (hs : s.status = .responseWaiting) (ht : elapsed s.cfg t s.rxTs ≤ s.cfg.tTimeout) :
    exec (.edge t lvl) s = .next (edgeInWaiting (wrapTime s.cfg t) (quiet s)) := by
  rw [exec_edge_on_time lvl hirq (by simp [hs]) (watchdogDue_of_within ht)]
  simp only [edgeByStatus, quiet_status, hs]

theorem exec_edge_startBit {t : Nat} (lvl : Level) {s : State} (hirq : s.irqEn = true)
    (hs : s.status = .responseStartBit) (ht : elapsed s.cfg t s.rxTs ≤ s.cfg.tTimeout) :
    exec (.edge t lvl) s = .next (edgeInStartBit (wrapTime s.cfg t) lvl (quiet s)) := by
  rw [exec_edge_on_time lvl hirq (by simp [hs]) (watchdogDue_of_within ht)]
  simp only [edgeByStatus, quiet_status, hs]

theorem exec_edge_receiving {t : Nat} (lvl : Level) {s : State} (hirq : s.irqEn = true)
    (hs : s.status = .responseReceiving) (ht : elapsed s.cfg t s.rxTs ≤ s.cfg.tTimeout) :
    exec (.edge t lvl) s = .next (edgeInReceiving (wrapTime s.cfg t) lvl (quiet s)) := by
  rw [exec_edge_on_time lvl hirq (by simp [hs]) (watchdogDue_of_within ht)]
  simp only [edgeByStatus, quiet_status, hs]

/-- Settles O49: the arms of `READY` and of `RESPONSE_WAITING`. -/
theorem firstEdgeStartsAReceive : Obligations.FirstEdgeStartsAReceive := by
  intro t lvl s hirq
  refine ⟨fun hs hrole hlvl => ?_, fun hs h => ?_, fun hs ht => ?_⟩
  · rw [exec_edge_ready t lvl hirq hs, edgeInReady, if_pos ⟨hrole, hlvl⟩]
    rfl
  · have hidle : ¬((quiet s).cfg.role = .slave ∧ lvl = .active) := by rcases h with h | h <;> simp [h]
    rw [exec_edge_ready t lvl hirq hs, edgeInReady, if_neg hidle]
    rfl
  · rw [exec_edge_waiting lvl hirq hs ht]
    rfl

/-! ### The windows of an interval (R142) -/

theorem intervalClass_eq_half_iff (c : Config) (dt : Nat) :
    intervalClass c dt = .half ↔ c.tShort ≤ dt ∧ dt < c.tThresh := by
  unfold intervalClass
  split
  · simp; omega
  · split
    · simp; omega
    · split <;> simp <;> omega

theorem intervalClass_eq_full {c : Config} {dt : Nat} (hv : c.Valid) (hlow : c.tThresh ≤ dt) (hhigh : dt < c.tLong) :
    intervalClass c dt = .full := by
  obtain ⟨h1, h2, -⟩ := hv
  rw [intervalClass, if_neg (by omega), if_neg (by omega), if_pos hhigh]

/-- What is neither half nor full is short or long: below `T_SHORT`, or from `T_LONG` up. -/
theorem intervalClass_eq_short_or_long {c : Config} {dt : Nat} (hv : c.Valid) (h : dt < c.tShort ∨ c.tLong ≤ dt) :
    intervalClass c dt = .short ∨ intervalClass c dt = .long := by
  obtain ⟨h1, h2, h3, h4, -⟩ := hv
  rcases h with h | h
  · exact .inl (if_pos h)
  · right
    rw [intervalClass, if_neg (by omega), if_neg (by omega), if_neg (by omega)]

/-! ### The start bit (R146) -/

theorem edgeInStartBit_good {t : Nat} {s : State} (hlow : s.cfg.tShort ≤ elapsed s.cfg t s.rxTs)
    (hhigh : elapsed s.cfg t s.rxTs < s.cfg.tThresh) :
    edgeInStartBit t .idle s =
      { s with status := .responseReceiving, bitIdx := 0#6, rxShift := 0#32, rxTs := t } :=
  if_pos ⟨(intervalClass_eq_half_iff _ _).2 ⟨hlow, hhigh⟩, rfl⟩

theorem edgeInStartBit_bad {t : Nat} {lvl : Level} {s : State}
    (h : elapsed s.cfg t s.rxTs < s.cfg.tShort ∨ s.cfg.tThresh ≤ elapsed s.cfg t s.rxTs ∨ lvl = .active) :
    edgeInStartBit t lvl s = takeError .framing t s := by
  refine if_neg fun ⟨hclass, hlvl⟩ => ?_
  obtain ⟨hlow, hhigh⟩ := (intervalClass_eq_half_iff _ _).1 hclass
  rcases h with h | h | h
  · omega
  · omega
  · simp [hlvl] at h

/-- Settles O50: the arm of `RESPONSE_START_BIT`, whose interval is told on the wrapped time. -/
theorem startBitIsCheckedAtItsMidBit : Obligations.StartBitIsCheckedAtItsMidBit := by
  intro t lvl s hirq hs ht
  rw [exec_edge_startBit lvl hirq hs ht]
  have hdt : elapsed (quiet s).cfg (wrapTime s.cfg t) (quiet s).rxTs = elapsed s.cfg t s.rxTs :=
    elapsed_wrapTime_left ..
  refine ⟨fun hlow hhigh hlvl => ?_, fun h => ?_⟩
  · rw [hlvl, edgeInStartBit_good (s := quiet s) (hdt.symm ▸ hlow) (hdt.symm ▸ hhigh)]
    rfl
  · rw [edgeInStartBit_bad (s := quiet s) (hdt.symm ▸ h)]
    rfl

/-! ### The bits (R147, R148) -/

theorem edgeInReceiving_half {t : Nat} (lvl : Level) {s : State} (hlow : s.cfg.tShort ≤ elapsed s.cfg t s.rxTs)
    (hhigh : elapsed s.cfg t s.rxTs < s.cfg.tThresh) : edgeInReceiving t lvl s = s := by
  rw [edgeInReceiving, (intervalClass_eq_half_iff _ _).2 ⟨hlow, hhigh⟩]

theorem edgeInReceiving_full {t : Nat} (lvl : Level) {s : State} (hv : s.cfg.Valid)
    (hlow : s.cfg.tThresh ≤ elapsed s.cfg t s.rxTs) (hhigh : elapsed s.cfg t s.rxTs < s.cfg.tLong) :
    edgeInReceiving t lvl s = sampleBit t lvl s := by
  rw [edgeInReceiving, intervalClass_eq_full hv hlow hhigh]

theorem edgeInReceiving_bad {t : Nat} (lvl : Level) {s : State} (hv : s.cfg.Valid)
    (h : elapsed s.cfg t s.rxTs < s.cfg.tShort ∨ s.cfg.tLong ≤ elapsed s.cfg t s.rxTs) :
    edgeInReceiving t lvl s = takeError .framing t s := by
  rcases intervalClass_eq_short_or_long hv h with h | h <;> rw [edgeInReceiving, h]

theorem sampleBit_data (t : Nat) (lvl : Level) {s : State} (hb : s.bitIdx.toNat < 32) :
    sampleBit t lvl s = shiftIn (sampledBit lvl) t s := by
  simp [sampleBit, hb]

theorem sampleBit_stop_idle (t : Nat) {s : State} (hb : s.bitIdx = 32#6) :
    sampleBit t .idle s = { s with status := .responseReady, rxTs := t } := by
  simp [sampleBit, hb, sampledBit]

theorem sampleBit_stop_active (t : Nat) {s : State} (hb : s.bitIdx = 32#6) :
    sampleBit t .active s = takeError .framing t s := by
  simp [sampleBit, hb, sampledBit]

/-- A bit shifted in at the low end: the register is doubled and the bit added (R117 (c)). -/
theorem shiftLeft_or_ofBool (x : Frame) (b : Bool) :
    (x <<< 1) ||| (BitVec.ofBool b).zeroExtend 32 = BitVec.ofNat 32 (2 * x.toNat + b.toNat) := by
  have hlow : (x <<< 1) &&& (BitVec.ofBool b).zeroExtend 32 = 0#32 := by
    ext i hi
    cases i <;> simp
  rw [← BitVec.add_eq_or_of_and_eq_zero _ _ hlow]
  apply BitVec.eq_of_toNat_eq
  cases b <;> simp [Nat.shiftLeft_eq, Nat.mul_comm]

/-- What a data bit writes. -/
theorem shiftIn_eq (b : Bool) (t : Nat) (s : State) :
    shiftIn b t s =
      { s with rxShift := BitVec.ofNat 32 (2 * s.rxShift.toNat + b.toNat),
               bitIdx := BitVec.ofNat 6 (s.bitIdx.toNat + 1), rxTs := t } := by
  rw [shiftIn, shiftLeft_or_ofBool, BitVec.ofNat_add s.bitIdx.toNat, BitVec.ofNat_toNat, BitVec.setWidth_eq]

/-- A sample is 1 for `IDLE` (R148). -/
theorem sampledBit_toNat (lvl : Level) : (sampledBit lvl).toNat = if lvl = .idle then 1 else 0 := by
  cases lvl <;> rfl

/-- Settles O51: the arm of `RESPONSE_RECEIVING` by the class of the interval, a sample by the place of its bit. -/
theorem receivingSamplesOnFullIntervals : Obligations.ReceivingSamplesOnFullIntervals := by
  intro t lvl s hv hirq hs ht
  rw [exec_edge_receiving lvl hirq hs ht]
  have hdt : elapsed (quiet s).cfg (wrapTime s.cfg t) (quiet s).rxTs = elapsed s.cfg t s.rxTs :=
    elapsed_wrapTime_left ..
  have hfull (hlow : s.cfg.tThresh ≤ elapsed s.cfg t s.rxTs) (hhigh : elapsed s.cfg t s.rxTs < s.cfg.tLong) :
      edgeInReceiving (wrapTime s.cfg t) lvl (quiet s) = sampleBit (wrapTime s.cfg t) lvl (quiet s) :=
    edgeInReceiving_full lvl (s := quiet s) hv (hdt.symm ▸ hlow) (hdt.symm ▸ hhigh)
  refine ⟨fun hlow hhigh => ?_, fun h => ?_, fun hlow hhigh hb => ?_, fun hlow hhigh hb hlvl => ?_,
    fun hlow hhigh hb hlvl => ?_⟩
  · rw [edgeInReceiving_half lvl (s := quiet s) (hdt.symm ▸ hlow) (hdt.symm ▸ hhigh)]
    rfl
  · rw [edgeInReceiving_bad lvl (s := quiet s) hv (hdt.symm ▸ h)]
    rfl
  · rw [hfull hlow hhigh, sampleBit_data _ lvl (s := quiet s) hb, shiftIn_eq, sampledBit_toNat]
    rfl
  · rw [hfull hlow hhigh, hlvl, sampleBit_stop_idle _ (s := quiet s) hb]
    rfl
  · rw [hfull hlow hhigh, hlvl, sampleBit_stop_active _ (s := quiet s) hb]
    rfl

end Sys2Proof.Machine
end

section
/-!
PROOFS. A line frame is received whole (R150): one bit cell is one sample, `n` cells after the start bit put the `n`
high bits of the frame into `rx_shift`, and the stop bit ends the receive.
-/

namespace Sys2Proof.Machine

/-! ### Runs of edges -/

theorem runEdges_append (es es' : List (Nat × Level)) {s u : State} (h : runEdges es s = .next u) :
    runEdges (es ++ es') s = runEdges es' u := by
  induction es generalizing s with
  | nil =>
    cases h
    rfl
  | cons e es ih =>
    rw [List.cons_append, runEdges]
    rw [runEdges] at h
    cases hx : exec (.edge e.1 e.2) s with
    | next v =>
      rw [hx] at h
      exact ih h
    | fault r => simp [hx] at h
    | refused r => simp [hx] at h

theorem runEdges_singleton {t : Nat} {lvl : Level} {s u : State} (h : exec (.edge t lvl) s = .next u) :
    runEdges [(t, lvl)] s = .next u := by
  rw [runEdges, h]
  rfl

theorem runEdges_cons {t : Nat} {lvl : Level} (es : List (Nat × Level)) {s u : State}
    (h : exec (.edge t lvl) s = .next u) : runEdges ((t, lvl) :: es) s = runEdges es u := by
  rw [runEdges, h]

/-- One more bit cell of a line frame. -/
theorem runEdges_lineEdges_succ {f : Frame} {t0 h n : Nat} {s u : State}
    (hrun : runEdges (lineEdges f t0 h n) s = .next u) :
    runEdges (lineEdges f t0 h (n + 1)) s =
      runEdges (cellEdges (levelBefore f n) (lineBit f n) (t0 + 2 * n * h) h) u :=
  runEdges_append _ _ hrun

/-! ### One bit cell -/

/-- The half periods of the other end: one is a half interval, two are a full one (R150). -/
structure CleanHalfPeriod (c : Config) (h : Nat) : Prop where
  valid : c.Valid
  halfLow : c.tShort ≤ h
  halfHigh : h < c.tThresh
  fullLow : c.tThresh ≤ 2 * h
  fullHigh : 2 * h < c.tLong

/-- Both intervals lie within the watchdog's bound, and the clock does not turn in them. -/
theorem CleanHalfPeriod.within_bound_and_turn {c : Config} {h : Nat} (hc : CleanHalfPeriod c h) :
    2 * h ≤ c.tTimeout ∧ 2 * h < 2 ^ c.wTime := by
  have hturn := two_mul_tTimeout_lt c hc.valid
  have hhigh := hc.fullHigh
  obtain ⟨-, -, -, -, h5, -⟩ := hc.valid
  omega

/-- The time from the reference edge at `ts` to an edge `d` later, as the watchdog and as the edge's arm tell it. -/
theorem elapsed_since {s : State} {ts d : Nat} (hts : s.rxTs = wrapTime s.cfg ts) (hd : d < 2 ^ s.cfg.wTime) :
    elapsed s.cfg (ts + d) s.rxTs = d ∧ elapsed s.cfg (wrapTime s.cfg (ts + d)) s.rxTs = d := by
  rw [elapsed_wrapTime_left, and_self, hts, elapsed_wrapTime_right, elapsed_add_left _ _ _ hd]

/-- The transition in the middle of the start bit. -/
theorem exec_edge_at_startMidBit {s : State} {ts h : Nat} (hc : CleanHalfPeriod s.cfg h)
    (hirq : s.irqEn = true) (hs : s.status = .responseStartBit) (hts : s.rxTs = wrapTime s.cfg ts) :
    exec (.edge (ts + h) .idle) s =
      .next { quiet s with status := .responseReceiving, bitIdx := 0#6, rxShift := 0#32,
                           rxTs := wrapTime s.cfg (ts + h) } := by
  obtain ⟨hbound, hturn⟩ := hc.within_bound_and_turn
  obtain ⟨hdt, hdt'⟩ := elapsed_since (d := h) hts (by omega)
  rw [exec_edge_startBit .idle hirq hs (by omega),
    edgeInStartBit_good (s := quiet s) (hc.halfLow.trans_eq hdt'.symm) (hdt'.trans_lt hc.halfHigh)]

/-- The transition at a bit boundary is ignored. -/
theorem exec_edge_at_boundary {s : State} {ts h : Nat} (lvl : Level) (hc : CleanHalfPeriod s.cfg h)
    (hirq : s.irqEn = true) (hs : s.status = .responseReceiving) (hts : s.rxTs = wrapTime s.cfg ts) :
    exec (.edge (ts + h) lvl) s = .next (quiet s) := by
  obtain ⟨hbound, hturn⟩ := hc.within_bound_and_turn
  obtain ⟨hdt, hdt'⟩ := elapsed_since (d := h) hts (by omega)
  rw [exec_edge_receiving lvl hirq hs (by omega),
    edgeInReceiving_half lvl (s := quiet s) (hc.halfLow.trans_eq hdt'.symm) (hdt'.trans_lt hc.halfHigh)]

/-- The transition in the middle of a bit cell is a sample. -/
theorem exec_edge_at_midBit {s : State} {ts h : Nat} (lvl : Level) (hc : CleanHalfPeriod s.cfg h)
    (hirq : s.irqEn = true) (hs : s.status = .responseReceiving) (hts : s.rxTs = wrapTime s.cfg ts) :
    exec (.edge (ts + 2 * h) lvl) s = .next (sampleBit (wrapTime s.cfg (ts + 2 * h)) lvl (quiet s)) := by
  obtain ⟨hbound, hturn⟩ := hc.within_bound_and_turn
  obtain ⟨hdt, hdt'⟩ := elapsed_since (d := 2 * h) hts hturn
  rw [exec_edge_receiving lvl hirq hs (by omega),
    edgeInReceiving_full lvl (s := quiet s) hc.valid (hc.fullLow.trans_eq hdt'.symm) (hdt'.trans_lt hc.fullHigh)]

/-- A bit cell that begins half a bit after the reference edge is one sample, with or without a transition at its
boundary. -/
theorem runEdges_cellEdges {s : State} {ts h : Nat} (before : Level) (b : Bool) (hc : CleanHalfPeriod s.cfg h)
    (hirq : s.irqEn = true) (hs : s.status = .responseReceiving) (hts : s.rxTs = wrapTime s.cfg ts) :
    runEdges (cellEdges before b (ts + h) h) s =
      .next (sampleBit (wrapTime s.cfg (ts + 2 * h)) (secondHalf b) (quiet s)) := by
  have hmid : ts + h + h = ts + 2 * h := by omega
  rw [cellEdges, hmid]
  split
  · exact runEdges_singleton (exec_edge_at_midBit _ hc hirq hs hts)
  · rw [List.singleton_append, runEdges_cons _ (exec_edge_at_boundary _ hc hirq hs hts)]
    exact runEdges_singleton (exec_edge_at_midBit (s := quiet s) _ hc hirq hs hts)

/-- A bit is read as it was sent (R67, R148). -/
@[simp] theorem sampledBit_secondHalf (b : Bool) : sampledBit (secondHalf b) = b := by
  cases b <;> rfl

/-! ### The bits of the frame -/

/-- The next lower bit joins the high bits of a frame. -/
theorem ushiftRight_step (f : Frame) (k : Nat) :
    2 * (f >>> (k + 1)).toNat + (f.getLsbD k).toNat = (f >>> k).toNat := by
  rw [BitVec.toNat_ushiftRight, BitVec.toNat_ushiftRight, BitVec.getLsbD, Nat.toNat_testBit, Nat.shiftRight_succ,
    ← Nat.shiftRight_eq_div_pow, Nat.div_add_mod]

/-- The state after the start bit and `n` data bits of the line frame of `f` (R146 to R148). -/
def afterBits (f : Frame) (t0 h n : Nat) (s : State) : State :=
  { s with status := .responseReceiving, rxShift := f >>> (32 - n), bitIdx := BitVec.ofNat 6 n,
           rxTs := wrapTime s.cfg (t0 + (2 * n + 1) * h), out := Outputs.silent }

/-- One data bit more. -/
theorem shiftIn_afterBits (f : Frame) (t0 h : Nat) {n : Nat} (hn : n < 32) (s : State) :
    shiftIn (lineBit f (n + 1)) (wrapTime s.cfg (t0 + (2 * (n + 1) + 1) * h)) (quiet (afterBits f t0 h n s)) =
      afterBits f t0 h (n + 1) s := by
  have hbit : lineBit f (n + 1) = f.getLsbD (32 - (n + 1)) := lineBit_between f (by omega) (by omega)
  have hplace : 32 - n = 32 - (n + 1) + 1 := by omega
  have hcount : (BitVec.ofNat 6 n).toNat = n := by
    rw [BitVec.toNat_ofNat]
    omega
  simp only [shiftIn_eq, afterBits, quiet, hbit, hcount, hplace, ushiftRight_step, BitVec.ofNat_toNat,
    BitVec.setWidth_eq]

/-- The states in which the leading edge of a start bit at `t0` is heard (R144, R145). -/
def ReceiveCanStart (t0 : Nat) (s : State) : Prop :=
  (s.status = .responseWaiting ∧ elapsed s.cfg t0 s.rxTs ≤ s.cfg.tTimeout) ∨
    (s.status = .ready ∧ s.cfg.role = .slave)

/-- The leading edge in `RESPONSE_WAITING`, or in a slave's `READY`, starts the receive (R144, R145). -/
theorem exec_leading_edge {t0 : Nat} {s : State} (hirq : s.irqEn = true) (hs : ReceiveCanStart t0 s) :
    exec (.edge t0 .active) s = .next (edgeInWaiting (wrapTime s.cfg t0) (quiet s)) := by
  obtain ⟨hready, hwaiting⟩ := (firstEdgeStartsAReceive t0 .active s hirq).imp_right And.right
  rcases hs with ⟨hs, ht⟩ | ⟨hs, hrole⟩
  · exact hwaiting hs ht
  · exact hready hs hrole rfl

/-- The start bit (R146). -/
theorem runEdges_startBit (f : Frame) {t0 h : Nat} {s : State} (hc : CleanHalfPeriod s.cfg h) (hirq : s.irqEn = true)
    (hs : ReceiveCanStart t0 s) :
    runEdges (lineEdges f t0 h 1) s = .next (afterBits f t0 h 0 s) := by
  have hedges : lineEdges f t0 h 1 = [(t0, .active), (t0 + h, .idle)] := by
    simp [lineEdges, cellEdges, levelBefore, lineBit_ends, firstHalf, secondHalf]
  have hmid := exec_edge_at_startMidBit (s := edgeInWaiting (wrapTime s.cfg t0) (quiet s)) hc hirq rfl rfl
  have hshift : f >>> (32 - 0) = 0#32 := BitVec.ushiftRight_eq_zero (Nat.le_refl 32)
  rw [hedges, runEdges_cons _ (exec_leading_edge hirq hs), runEdges_singleton hmid, afterBits, hshift, Nat.mul_zero,
    Nat.zero_add, Nat.one_mul]
  rfl

/-- The data bits: after `n` of them the `n` high bits of the frame are in the register (R147). -/
theorem runEdges_dataBits (f : Frame) {t0 h : Nat} {s : State} (hc : CleanHalfPeriod s.cfg h) (hirq : s.irqEn = true)
    (hs : ReceiveCanStart t0 s) {n : Nat} (hn : n ≤ 32) :
    runEdges (lineEdges f t0 h (n + 1)) s = .next (afterBits f t0 h n s) := by
  induction n with
  | zero => exact runEdges_startBit f hc hirq hs
  | succ n ih =>
    have hstart : t0 + 2 * (n + 1) * h = t0 + (2 * n + 1) * h + h := by ring
    have hsample : t0 + (2 * n + 1) * h + 2 * h = t0 + (2 * (n + 1) + 1) * h := by ring
    have hcell := runEdges_cellEdges (s := afterBits f t0 h n s) (levelBefore f (n + 1)) (lineBit f (n + 1)) hc hirq
      rfl rfl
    have hcount : (quiet (afterBits f t0 h n s)).bitIdx.toNat < 32 := by
      rw [quiet_bitIdx, afterBits, BitVec.toNat_ofNat]
      omega
    rw [runEdges_lineEdges_succ (ih (by omega)), hstart, hcell, sampleBit_data _ _ hcount, sampledBit_secondHalf,
      hsample]
    exact congrArg _ (shiftIn_afterBits f t0 h (by omega) s)

/-- Settles O53: after the 32 data bits the whole frame is in the register, and the stop bit is a 1. -/
theorem cleanLineFramesAreReceived : Obligations.CleanLineFramesAreReceived := by
  intro f t0 h s hv hirq hhalfLow hhalfHigh hfullLow hfullHigh hs
  have hc : CleanHalfPeriod s.cfg h := ⟨hv, hhalfLow, hhalfHigh, hfullLow, hfullHigh⟩
  have hstart : t0 + 2 * 33 * h = t0 + (2 * 32 + 1) * h + h := by ring
  have hsample : t0 + (2 * 32 + 1) * h + 2 * h = t0 + 67 * h := by ring
  have hcell := runEdges_cellEdges (s := afterBits f t0 h 32 s) (levelBefore f 33) true hc hirq rfl rfl
  rw [runEdges_lineEdges_succ (runEdges_dataBits f hc hirq hs (Nat.le_refl 32)), lineBit_ends f (.inr rfl), hstart,
    hcell, hsample]
  exact congrArg _ ((sampleBit_stop_idle _ rfl).trans (by simp [afterBits, quiet, wrapTime]))

end Sys2Proof.Machine
end

section
/-!
PROOFS. A protocol operation by where the watchdog stands (R170): within its bound the operation acts on the state as it
is, past it on the state the watchdog leaves. With it the operations that read or claim the core (R161 to R165, R167 to
R169).
-/

namespace Sys2Proof.Machine

/-! ### An operation before and after the watchdog's instant -/

/-- Every step but an edge acts at the clock (R8). -/
theorem stepTime_of_not_event {i : Instr} (h : isEvent i = false) (s : State) : stepTime i s = clock s := by
  cases i with
  | edge t lvl => simp [isEvent] at h
  | _ => rfl

theorem isEvent_of_isProtocol {i : Instr} (h : isProtocol i = true) : isEvent i = false := by
  simp [isProtocol] at h
  exact h.2

/-- A protocol operation, `end` included, acts on what the watchdog leaves (R170). -/
theorem exec_protocol_of_live {i : Instr} {s : State} (hp : isProtocol i = true) (hd : s.status ≠ .delay) :
    exec i s = .next (opEffect s.cfg i (watchdogFirst (clock s) (quiet s))) := by
  by_cases he : i = .endOp
  · subst he
    rfl
  · rw [exec_protocol i s hp he]
    exact liveStep_of_live _ s hd

theorem exec_protocol_of_not_due {i : Instr} {s : State} (hp : isProtocol i = true) (hd : s.status ≠ .delay)
    (hw : watchdogDue (clock s) s = false) : exec i s = .next (opEffect s.cfg i (quiet s)) := by
  rw [exec_protocol_of_live hp hd, watchdogFirst_of_not_due _ _ (by simpa using hw)]

theorem exec_protocol_of_due {i : Instr} {s : State} (hp : isProtocol i = true)
    (hw : watchdogDue (clock s) s = true) :
    exec i s = .next (opEffect s.cfg i (takeError .timeout (watchdogInstant s) (quiet s))) := by
  have hd : s.status ≠ .delay := ne_of_watched ((watchdogDue_iff _ s).1 hw).1 rfl
  rw [exec_protocol_of_live hp hd, watchdogFirst_of_due _ _ (by simpa using hw)]
  rfl

/-- The time-out takes a receive to `RESPONSE_INVALID`: it makes no core ready and takes none out of `READY` (R149). -/
theorem watchdogFirst_ready_iff (t : Nat) (s : State) : (watchdogFirst t s).status = .ready ↔ s.status = .ready := by
  obtain ⟨-, e⟩ | ⟨hdue, e⟩ := watchdogFirst_cases t s <;> rw [e]
  have hs : s.status ≠ .ready := ne_of_watched ((watchdogDue_iff t s).1 hdue).1 rfl
  simp [hs]

/-! ### `begin` and `end` (R161, R162) -/

theorem beginEffect_stopped (cb : Bool) {s : State} (hs : s.status = .notInitialized) :
    beginEffect cb s = lineWrite .idle { s with status := .ready, irqEn := true, cbEn := cb } :=
  if_pos hs

theorem beginEffect_started (cb : Bool) {s : State} (hs : s.status ≠ .notInitialized) : beginEffect cb s = s :=
  if_neg hs

/-- Settles O34: the two arms of `begin`; a stopped core has no watchdog. -/
theorem beginStartsOnlyAStoppedCore : Obligations.BeginStartsOnlyAStoppedCore := by
  refine fun cb s => ⟨fun hs => ?_, fun hs hd hw => ?_⟩
  · have hw : watchdogDue (clock s) s = false := watchdogDue_of_unwatched _ (by rw [hs]; rfl)
    rw [exec_protocol_of_not_due rfl (by simp [hs]) hw, opEffect, beginEffect_stopped cb (s := quiet s) hs]
    rfl
  · rw [exec_protocol_of_not_due rfl hd hw, opEffect, beginEffect_started cb (s := quiet s) hs]
    rfl

/-- Settles O35: `end` after a watchdog that is not due. -/
theorem endStopsTheCore : Obligations.EndStopsTheCore := by
  intro s hw
  rw [exec_end, watchdogFirst_of_not_due _ _ (by simpa using hw)]
  rfl

/-! ### The queries (R163, R167, R168) -/

/-- Settles O36: the watchdog writes neither result, and no `READY` core is watched. -/
theorem queriesReturnTheState : Obligations.QueriesReturnTheState := by
  refine fun s hd => ⟨?_, ?_, ?_, fun hw => ⟨?_, ?_, ?_⟩⟩
  · exact ⟨_, exec_protocol_of_live rfl hd, by simp [opEffect, watchdogFirst_ready_iff]⟩
  · exact ⟨_, exec_protocol_of_live rfl hd, by simp [opEffect]⟩
  · exact ⟨_, exec_protocol_of_live rfl hd, by simp [opEffect]⟩
  · exact exec_protocol_of_not_due rfl hd hw
  · exact exec_protocol_of_not_due rfl hd hw
  · exact exec_protocol_of_not_due rfl hd hw

/-! ### The sends (R164, R165, R169) -/

theorem trySend_accepted (f : Frame) (kind : TxKind) {s : State} (hs : s.status = .ready) :
    trySend f kind s = giveResult (.bool true) (txStart f kind (clock s) s) :=
  if_pos hs

theorem startSync_accepted (kind : SyncKind) (f : Frame) {s : State} (hs : s.status = .ready) :
    startSync kind f s = { txStart f .request (clock s) s with sync := some { kind := kind, t0 := clock s } } :=
  if_pos hs

/-- A core in `READY` has no watchdog: an operation acts on it as it is. -/
theorem exec_protocol_ready {i : Instr} {s : State} (hp : isProtocol i = true) (hs : s.status = .ready) :
    exec i s = .next (opEffect s.cfg i (quiet s)) :=
  exec_protocol_of_not_due hp (by simp [hs]) (watchdogDue_of_unwatched _ (by rw [hs]; rfl))

/-- Settles O37: `trySend` accepts in `READY` and rejects elsewhere, for either kind of transmission. -/
theorem asynchronousSendsAreAcceptedOnlyInReady : Obligations.AsynchronousSendsAreAcceptedOnlyInReady := by
  refine fun f s => ⟨fun hs => ?_, fun hs hd hw => ?_⟩
  · have haccept (kind : TxKind) := trySend_accepted f kind (s := quiet s) hs
    rw [exec_protocol_ready rfl hs, exec_protocol_ready rfl hs, opEffect, opEffect, haccept, haccept]
    exact ⟨rfl, rfl⟩
  · have hreject (kind : TxKind) := trySend_rejected f kind (s := quiet s) hs
    rw [exec_protocol_of_not_due rfl hd hw, exec_protocol_of_not_due rfl hd hw, opEffect, opEffect, hreject, hreject]
    exact ⟨rfl, rfl⟩

/-- Settles O38: `startSync` claims a `READY` core and rejects elsewhere. -/
theorem synchronousSendStartsOrReturnsTheSentinel : Obligations.SynchronousSendStartsOrReturnsTheSentinel := by
  refine fun f s => ⟨fun hs => ?_, fun hs hd hw => ?_⟩
  · rw [exec_protocol_ready rfl hs, opEffect, startSync_accepted .frame f (s := quiet s) hs]
    rfl
  · rw [exec_protocol_of_not_due rfl hd hw, opEffect, startSync_rejected .frame f (s := quiet s) hs]
    rfl

end Sys2Proof.Machine
end

section
/-!
PROOFS. What `process` writes and raises, by the end of the receive and the cause (R166, R209, R213, R215).
-/

namespace Sys2Proof.Machine

/-- A delivery written out: the two results, `READY`, and the strobe if a callback is registered (R166). -/
theorem deliver_eq (rs : ResponseStatus) (s : State) :
    deliver rs s =
      { s with lastResponse := s.rxShift, respStatus := rs, status := .ready,
               out := { s.out with callback := if s.cbEn then some (s.rxShift, rs) else s.out.callback } } := by
  unfold deliver emitCallback
  cases h : s.cbEn <;> rfl

theorem finalise_valid {s : State} (hs : s.status = .responseReady)
    (hv : validIn (expectedFamily s.cfg.role) s.rxShift = true) : finalise s = deliver .success s := by
  simp [finalise, hs, finaliseReady, hv]

theorem finalise_not_valid {s : State} (hs : s.status = .responseReady)
    (hv : validIn (expectedFamily s.cfg.role) s.rxShift = false) :
    finalise s = deliver .invalid (report (validationFailure s.rxShift) s) := by
  simp [finalise, hs, finaliseReady, hv]

theorem finalise_timeout {s : State} (hs : s.status = .responseInvalid) (hp : s.pendCause = .timeout) :
    finalise s = deliver .timeout s := by
  simp [finalise, hs, finaliseInvalid, hp]

theorem finalise_framing {s : State} (hs : s.status = .responseInvalid) (hp : s.pendCause = .framing) :
    finalise s = deliver .invalid s := by
  simp [finalise, hs, finaliseInvalid, hp]

theorem receiveEnded_eq_false {st : DriverStatus} (hready : st ≠ .responseReady) (hinvalid : st ≠ .responseInvalid) :
    receiveEnded st = false := by
  simp [← Bool.not_eq_true, receiveEnded_iff, hready, hinvalid]

/-- A receive that has ended is live and no longer watched. -/
theorem live_and_not_due_of_ended {s : State} (h : receiveEnded s.status = true) (t : Nat) :
    s.status ≠ .delay ∧ watchdogDue t s = false := by
  obtain hs | hs := (receiveEnded_iff _).1 h
  · exact ⟨by simp [hs], watchdogDue_of_unwatched t (by rw [hs]; rfl)⟩
  · exact ⟨by simp [hs], watchdogDue_of_unwatched t (by rw [hs]; rfl)⟩

theorem execProcess_ended {s : State} (h : receiveEnded s.status = true) :
    exec .process s = .next (finalise (quiet s)) := by
  obtain ⟨hd, hw⟩ := live_and_not_due_of_ended h (clock s)
  exact exec_protocol_of_not_due rfl hd hw

/-- The validator of a role in the words of R166: even parity, and frame bit 30 set exactly for a master. -/
theorem validIn_expectedFamily (r : Role) (f : Frame) :
    validIn (expectedFamily r) f = decide (popcount f % 2 = 0 ∧ (f.getLsbD 30 = true ↔ r = .master)) := by
  have hbit : f.getLsbD 30 = decide (f.toNat / 2 ^ 30 % 2 = 1) := Nat.testBit_eq_decide_div_mod_eq
  rw [hbit]
  cases r with
  | master => simp [expectedFamily, validIn_responder]
  | slave => simp [expectedFamily, validIn_requester]

theorem validationFailure_odd {f : Frame} (h : popcount f % 2 = 1) : validationFailure f = .invalidParity := by
  simp [validationFailure, parityOf_eq_odd_popcount, h]

theorem validationFailure_even {f : Frame} (h : popcount f % 2 = 0) :
    validationFailure f = .unknownOrMismatchedMessageType := by
  simp [validationFailure, parityOf_eq_odd_popcount, h]

/-- Settles O41: the frame passes the validator of the role, or fails it by its parity or by its family. -/
theorem processValidatesACompletedReceive : Obligations.ProcessValidatesACompletedReceive := by
  intro s hs
  rw [execProcess_ended ((receiveEnded_iff _).2 (.inl hs))]
  have hinvalid (h : ¬(popcount s.rxShift % 2 = 0 ∧ (s.rxShift.getLsbD 30 = true ↔ s.cfg.role = .master))) :
      finalise (quiet s) = deliver .invalid (report (validationFailure s.rxShift) (quiet s)) :=
    finalise_not_valid (s := quiet s) hs ((validIn_expectedFamily _ _).trans (decide_eq_false h))
  refine ⟨fun heven hfam => ?_, fun hodd => ?_, fun heven hfam => ?_⟩
  · have hv := (validIn_expectedFamily s.cfg.role s.rxShift).trans (decide_eq_true ⟨heven, hfam⟩)
    rw [finalise_valid (s := quiet s) hs hv, deliver_eq]
    rfl
  · rw [hinvalid (by simp [hodd]), validationFailure_odd hodd, deliver_eq]
    rfl
  · rw [hinvalid fun h => hfam h.2, validationFailure_even heven, deliver_eq]
    rfl

/-- Settles O42: the cause decides the status that is delivered; where no receive has ended there is nothing to do. -/
theorem processRecordsAFailureOrDoesNothing : Obligations.ProcessRecordsAFailureOrDoesNothing := by
  refine fun s => ⟨fun hs hp => ?_, fun hs hp => ?_, fun hready hinvalid hd hw => ?_⟩
  · rw [execProcess_ended ((receiveEnded_iff _).2 (.inr hs)), finalise_timeout (s := quiet s) hs hp, deliver_eq]
    rfl
  · rw [execProcess_ended ((receiveEnded_iff _).2 (.inr hs)), finalise_framing (s := quiet s) hs hp, deliver_eq]
    rfl
  · exact execProcess_idle hd (receiveEnded_eq_false hready hinvalid) hw

end Sys2Proof.Machine
end

section
/-!
PROOFS. The polls of a blocked host (R169, R182): the one that finalises, the one that gives up and the one that waits;
when the host polls (R240).
-/

namespace Sys2Proof.Machine

/-! ### What a poll does -/

theorem pollSync_blocked {s : State} {c : SyncCall} (hs : s.sync = some c) :
    pollSync s = protocolStep (pollCall c) s := by
  rw [pollSync, hs]

theorem pollCall_ended (c : SyncCall) {s : State} (h : receiveEnded s.status = true) :
    pollCall c s = endSync c.kind (frameOrSentinel (finalise s)) (finalise s) :=
  if_pos h

/-- The poll that finds the receive ended: `process`, and the call returns (R169). -/
theorem pollSync_ended {s : State} {c : SyncCall} (hs : s.sync = some c) (h : receiveEnded s.status = true) :
    pollSync s = .next (endSync c.kind (frameOrSentinel (finalise (quiet s))) (finalise (quiet s))) := by
  obtain ⟨hd, hw⟩ := live_and_not_due_of_ended h (clock s)
  rw [pollSync_blocked hs, protocolStep_of_not_due _ s hd hw, pollCall_ended c (s := quiet s) h]

theorem syncExpired_iff (t : Nat) (c : SyncCall) (s : State) :
    syncExpired t c s = true ↔ ∃ b, s.cfg.tSyncTimeout = some b ∧ b < elapsed s.cfg t c.t0 := by
  cases h : s.cfg.tSyncTimeout <;> simp [syncExpired, h]

/-- Any other poll gives up with `SENTINEL` past the bound and does nothing within it (R169). -/
theorem pollSync_not_ended {s : State} {c : SyncCall} (hs : s.sync = some c) (h : receiveEnded s.status = false)
    (hd : s.status ≠ .delay) (hw : watchdogDue (clock s) s = false) :
    pollSync s = .next
      (if syncExpired (clock s) c s then endSync c.kind s.cfg.sentinel (quiet s) else quiet s) := by
  rw [pollSync_blocked hs, protocolStep_of_not_due _ s hd hw]
  exact congrArg _ (if_neg (by simp [h]))

/-- The value that a call reads from the frame a finished exchange returns (R182): 0 but for a success. -/
theorem syncResult_temperature (f : Frame) (s : State) :
    syncResult .temperature f s = .real (if s.respStatus = .success then (BitVec.ofNat 16 f.toNat).toInt else 0) := by
  rw [syncResult, floatNumerator_eq_toInt]

/-- Settles O39: the poll is `process` and the return of the call. -/
theorem pollsFinaliseAsProcess : Obligations.PollsFinaliseAsProcess := by
  intro kind t0 s hs hst
  have hended : receiveEnded s.status = true := (receiveEnded_iff _).2 hst
  have hready : (finalise (quiet s)).status = .ready := by rw [finalise_status, quiet_status, if_pos hended]
  have hframe : frameOrSentinel (finalise (quiet s)) =
      if (finalise (quiet s)).respStatus = .success then (finalise (quiet s)).lastResponse else s.cfg.sentinel := by
    rw [frameOrSentinel, finalise_cfg, quiet_cfg]
  refine ⟨finalise (quiet s), execProcess_ended hended, hready, ?_, ?_⟩
  · rintro rfl
    rw [pollSync_ended hs hended, hframe]
    rfl
  · rintro rfl
    rw [pollSync_ended hs hended, hframe, endSync, syncResult_temperature]
    split <;> rfl

/-- Settles O40: the bound of the call is past or it is not. -/
theorem pollsGiveUpOrWait : Obligations.PollsGiveUpOrWait := by
  intro kind t0 s hs hready hinvalid hd hw
  have hended : receiveEnded s.status = false := receiveEnded_eq_false hready hinvalid
  rw [pollSync_not_ended hs hended hd hw]
  refine ⟨fun b hb hlate => ?_, fun hwithin => ?_⟩
  · rw [if_pos ((syncExpired_iff _ _ s).2 ⟨b, hb, hlate⟩)]
    refine ⟨?_, ?_⟩
    · rintro rfl
      rfl
    · rintro rfl
      rw [endSync, syncResult_temperature]
      rfl
  · have hexpired : ¬syncExpired (clock s) { kind := kind, t0 := t0 } s = true := by
      rw [syncExpired_iff]
      rintro ⟨b, hb, hlate⟩
      exact Nat.not_lt.2 (hwithin b hb) hlate
    rw [if_neg hexpired]
    rfl

/-! ### The finalising poll reads no clock -/

theorem deliver_atTime (rs : ResponseStatus) (n : Nat) (s : State) :
    deliver rs (atTime n s) = atTime n (deliver rs s) := by
  rw [deliver_eq, deliver_eq]
  rfl

/-- `process` reads no clock (R166). -/
theorem finalise_atTime (n : Nat) (s : State) : finalise (atTime n s) = atTime n (finalise s) := by
  obtain ⟨h, e⟩ | ⟨hs, hv, e⟩ | ⟨hs, hv, e⟩ | ⟨hs, hp, e⟩ | ⟨hs, hp, e⟩ := finalise_cases s <;> rw [e]
  · exact finalise_of_not_ended h
  · exact (finalise_valid (s := atTime n s) hs hv).trans (deliver_atTime ..)
  · exact (finalise_not_valid (s := atTime n s) hs hv).trans (deliver_atTime .invalid n (report _ s))
  · exact (finalise_timeout (s := atTime n s) hs hp).trans (deliver_atTime ..)
  · exact (finalise_framing (s := atTime n s) hs hp).trans (deliver_atTime ..)

/-- Settles O59: neither `process` nor the return of the call reads the clock. -/
theorem finalisingPollDoesNotDependOnItsTime : Obligations.FinalisingPollDoesNotDependOnItsTime := by
  intro s t n hst h
  have hended : receiveEnded s.status = true := (receiveEnded_iff _).2 hst
  change pollSync (atTime n s) = .next (atTime n t)
  cases hs : s.sync with
  | none =>
    rw [pollSync, hs] at h
    rw [pollSync, atTime_sync, hs, ← Host.Outcome.next.inj h]
    rfl
  | some c =>
    have hfinal : finalise (quiet (atTime n s)) = atTime n (finalise (quiet s)) := finalise_atTime n (quiet s)
    rw [pollSync_ended hs hended] at h
    rw [pollSync_ended (s := atTime n s) hs hended, hfinal, ← Host.Outcome.next.inj h]
    rfl

/-! ### When a blocked host polls -/

theorem step_poll {s : State} {n : Nat} (hn : nextAgent s = some (n, .host)) (hs : s.sync ≠ none) :
    step s = pollSync (usePoll (atTime n s)) := by
  obtain ⟨c, hc⟩ := Option.ne_none_iff_exists'.1 hs
  simp [step, nextMove, hostMove, hn, hc]

theorem hostTime_chosen {s : State} {c : SyncCall} {p : Nat} {rest : List Nat} (hs : s.sync = some c)
    (hp : s.polls = p :: rest) : hostTime s = some (max s.now p) := by
  simp [hostTime, hs, hp]

theorem hostTime_no_poll_left {s : State} {c : SyncCall} (hs : s.sync = some c) (hp : s.polls = []) :
    hostTime s = returnTime c s := by
  simp [hostTime, hs, hp]

theorem returnTime_ended (c : SyncCall) {s : State} (h : receiveEnded s.status = true) :
    returnTime c s = some s.now :=
  if_pos h

theorem returnTime_not_ended (c : SyncCall) {s : State} (h : receiveEnded s.status = false) :
    returnTime c s = s.cfg.tSyncTimeout.map fun b => s.now + untilExceeds b c.t0 s := by
  cases hb : s.cfg.tSyncTimeout <;> simp [returnTime, h, hb]

/-- Neither the watchdog nor the engine has a step once the receive has ended. -/
theorem no_core_step_of_ended {s : State} (h : receiveEnded s.status = true) :
    watchdogTime s = none ∧ engineTime s = none := by
  obtain hs | hs := (receiveEnded_iff _).1 h <;> simp [watchdogTime, engineTime, watched, hs]

theorem usePoll_atTime_now {s : State} (hp : s.polls = []) : usePoll (atTime s.now s) = s := by
  rw [usePoll, atTime_polls, hp, List.tail_nil, ← hp]
  rfl

/-- Settles O58: the host's time is the poll it chose, or with none left the instant its call can return. -/
theorem blockedHostPollsWhenItChooses : Obligations.BlockedHostPollsWhenItChooses := by
  intro c s hs
  have hblocked : s.sync ≠ none := by simp [hs]
  refine ⟨fun p rest hp hw hl he => ?_, fun hp hst hl => ?_, fun hp hready hinvalid => ?_⟩
  · rw [step_poll (nextAgent_host (hostTime_chosen hs hp) hw hl he) hblocked, usePoll, atTime_polls, hp]
    rfl
  · have hended : receiveEnded s.status = true := (receiveEnded_iff _).2 hst
    obtain ⟨hw, he⟩ := no_core_step_of_ended hended
    have hh := (hostTime_no_poll_left hs hp).trans (returnTime_ended c hended)
    rw [step_poll (nextAgent_host hh (by simp [hw]) hl (by simp [he])) hblocked, usePoll_atTime_now hp]
  · have hended : receiveEnded s.status = false := receiveEnded_eq_false hready hinvalid
    exact (hostTime_no_poll_left hs hp).trans (returnTime_not_ended c hended)

end Sys2Proof.Machine
end

section
/-!
PROOFS. The transition table (R160): the status moves along a row, and a step without a row writes nothing.
-/

namespace Sys2Proof.Machine

@[simp] theorem stepTime_quiet (i : Instr) (s : State) : stepTime i (quiet s) = stepTime i s := by
  cases i <;> rfl

/-- Where the watchdog does not precede a step of the host, it is not due at the clock. -/
theorem not_due_at_clock {i : Instr} {s : State} (hi : isEvent i = false)
    (hw : i = .wdg ∨ watchdogDue (stepTime i s) s = false) : watchdogDue (clock s) s = false := by
  rw [← stepTime_of_not_event hi]
  exact hw.resolve_left fun e => by simp [e, isEvent] at hi

/-- An edge that the watchdog does not precede is the arm of the status, or nothing while detached (R140). -/
theorem edgeHandler_not_due {t : Nat} (lvl : Level) {s : State} (hw : watchdogDue (wrapTime s.cfg t) s = false) :
    edgeHandler t lvl s = if s.irqEn then edgeByStatus (wrapTime s.cfg t) lvl s else s := by
  rw [edgeHandler, watchdogFirst_of_not_due _ _ hw]

theorem wdgEffect_not_due {s : State} (hw : watchdogDue (clock s) s = false) : wdgEffect s = s := by
  simp [wdgEffect, hw]

theorem txHalfEffect_at_rest {s : State} (hs : s.status ≠ .requestSending) : txHalfEffect s = s :=
  if_neg hs

theorem txHalfCompletionEffect_at_rest {s : State} (hs : s.status ≠ .requestSending) :
    txHalfCompletionEffect s = s :=
  if_neg fun h => hs h.1

/-! ### Every change is a row -/

/-- `i` takes the state `s` to `t` along a row of the table, or keeps the status. -/
def FollowsTable (i : Instr) (s t : State) : Prop :=
  t.status = s.status ∨ hasRow i s.status t.status = true

theorem sendRow_of_ready {before : DriverStatus} (h : before = .ready) : sendRow before .requestSending = true := by
  rw [h]
  rfl

/-- The rows of a send (R160): from `READY` to `REQUEST_SENDING`. -/
theorem trySend_status_row (f : Frame) (kind : TxKind) (s : State) :
    (trySend f kind s).status = s.status ∨ sendRow s.status (trySend f kind s).status = true := by
  obtain ⟨hs, e⟩ | ⟨-, e⟩ := trySend_cases f kind s <;> rw [e]
  · exact .inr (sendRow_of_ready hs)
  · exact .inl rfl

theorem startSync_status_row (kind : SyncKind) (f : Frame) (s : State) :
    (startSync kind f s).status = s.status ∨ sendRow s.status (startSync kind f s).status = true := by
  obtain ⟨hs, e⟩ | ⟨-, e⟩ := startSync_cases kind f s <;> rw [e]
  · exact .inr (sendRow_of_ready hs)
  · exact .inl rfl

/-- Rows 6 and 7: the kind of the transmission chooses. -/
theorem txComplete_engineRow {s : State} (hs : s.status = .requestSending) (t : Nat) :
    engineRow s.status (txComplete t s).status = true := by
  cases hk : s.txKind <;> simp [engineRow, hs, hk]

theorem txHalfEffect_status_row (s : State) :
    (txHalfEffect s).status = s.status ∨ engineRow s.status (txHalfEffect s).status = true := by
  obtain ⟨-, -, e⟩ | ⟨hs, -, e⟩ | ⟨-, e⟩ := txHalfEffect_cases s <;> rw [e]
  · exact .inl rfl
  · exact .inr (txComplete_engineRow hs _)
  · exact .inl rfl

theorem txHalfCompletionEffect_status_row (s : State) :
    (txHalfCompletionEffect s).status = s.status ∨ engineRow s.status (txHalfCompletionEffect s).status = true := by
  unfold txHalfCompletionEffect
  split
  · rename_i h
    exact .inr (txComplete_engineRow h.1 _)
  · exact .inl rfl

/-- The rows 8, 9, 11, 12 and 14 to 18: one for each arm of the handler that moves the status. -/
theorem edgeByStatus_status_row (t : Nat) (lvl : Level) (s : State) :
    (edgeByStatus t lvl s).status = s.status ∨ edgeRow s.status (edgeByStatus t lvl s).status = true := by
  obtain e | ⟨hs, -, -, e⟩ | ⟨hs, e⟩ | ⟨hs, -, -, e⟩ | ⟨hs | hs, e⟩ | ⟨hs, -, -, e⟩ | ⟨hs, -, -, -, e⟩ :=
    edgeByStatus_cases t lvl s
  · exact .inl (by rw [e])
  all_goals exact .inr (by simp [e, hs, edgeRow])

/-- The effect of an instruction that the watchdog does not precede follows the table. -/
theorem opEffect_followsTable (c : Config) (i : Instr) {s : State}
    (hw : i = .wdg ∨ watchdogDue (stepTime i s) s = false) : FollowsTable i s (opEffect c i s) := by
  cases i with
  | beginOp cb =>
    by_cases hs : s.status = .notInitialized
    · exact .inr (by simp [opEffect, beginEffect, hasRow, hs])
    · exact .inl (by rw [opEffect, beginEffect_started cb hs])
  | endOp =>
    by_cases hs : s.status = .notInitialized
    · exact .inl hs.symm
    · exact .inr (by simp [opEffect, hasRow, hs])
  | sendRequest f => exact startSync_status_row ..
  | sendRequestAsync f => exact trySend_status_row ..
  | sendResponse f => exact trySend_status_row ..
  | process =>
    rw [FollowsTable, opEffect, finalise_status]
    split
    · exact .inr (by simp [hasRow, *])
    · exact .inl rfl
  | edge t lvl =>
    rw [FollowsTable, opEffect, edgeHandler_not_due lvl (hw.resolve_left (by simp))]
    split
    · exact edgeByStatus_status_row ..
    · exact .inl rfl
  | txHalf => exact txHalfEffect_status_row s
  | txHalfCompletion => exact txHalfCompletionEffect_status_row s
  | wdg =>
    rw [FollowsTable, opEffect, wdgEffect]
    split
    · rename_i hdue
      exact .inr (by simp [hasRow, ((watchdogDue_iff _ s).1 hdue).1])
    · exact .inl rfl
  | setBoilerStatus ch dhw cool otc ch2 => exact startSync_status_row ..
  | getBoilerTemperature => exact startSync_status_row ..
  | _ => exact .inl rfl

/-- Settles O12: a step that the watchdog does not precede is its effect on the state as it is. -/
theorem statusFollowsTheTransitionTable : Obligations.StatusFollowsTheTransitionTable := by
  intro i s t hw h
  have heffect : FollowsTable i s (opEffect s.cfg i (quiet s)) :=
    opEffect_followsTable s.cfg i (s := quiet s) (by simpa using hw)
  obtain ⟨-, r, rfl⟩ | ⟨-, -, rfl⟩ | ⟨hp, -, rfl⟩ := exec_next_cases h
  · exact .inl rfl
  · exact heffect
  · have hevent := isEvent_of_isProtocol hp
    rw [watchdogFirst_of_not_due _ _ (by simpa using not_due_at_clock hevent hw)]
    exact heffect

/-! ### No row, no change -/

/-- `t` is `s` but for the outputs of the step. -/
def OnlyOutputsDiffer (s t : State) : Prop := ∃ o : Outputs, t = { s with out := o }

theorem onlyOutputsDiffer_giveResult (r : Result) (s : State) : OnlyOutputsDiffer s (giveResult r s) :=
  ⟨_, rfl⟩

theorem onlyOutputsDiffer_of_eq {s t : State} (h : t = s) : OnlyOutputsDiffer s t :=
  ⟨s.out, h⟩

theorem not_ready_of_no_sendRow {st : DriverStatus} (hrow : ∀ after, sendRow st after = false) : st ≠ .ready :=
  fun h => by simpa [sendRow, h] using hrow .requestSending

theorem onlyOutputsDiffer_trySend (f : Frame) (kind : TxKind) {s : State}
    (hrow : ∀ after, sendRow s.status after = false) : OnlyOutputsDiffer s (trySend f kind s) := by
  rw [trySend_rejected f kind (not_ready_of_no_sendRow hrow)]
  exact onlyOutputsDiffer_giveResult ..

theorem onlyOutputsDiffer_startSync (kind : SyncKind) (f : Frame) {s : State}
    (hrow : ∀ after, sendRow s.status after = false) : OnlyOutputsDiffer s (startSync kind f s) := by
  rw [startSync_rejected kind f (not_ready_of_no_sendRow hrow)]
  exact onlyOutputsDiffer_giveResult ..

theorem not_sending_of_no_engineRow {st : DriverStatus} (hrow : ∀ after, engineRow st after = false) :
    st ≠ .requestSending :=
  fun h => by simpa [engineRow, h] using hrow .ready

/-- Where an edge has no row, the handler has no arm (R143). -/
theorem edgeByStatus_of_no_row (t : Nat) (lvl : Level) {s : State} (hrow : ∀ after, edgeRow s.status after = false) :
    edgeByStatus t lvl s = s := by
  have hstart := hrow .responseStartBit
  have hinvalid := hrow .responseInvalid
  cases hs : s.status <;> simp [edgeByStatus, edgeRow, hs] at hstart hinvalid ⊢

/-- A stopped core is as `end` leaves it (R33). -/
theorem State.Inv.endEffect_stopped {s : State} (h : s.Inv) (hs : s.status = .notInitialized) : endEffect s = s := by
  have hirq : s.irqEn = false := by simpa [hs] using h.attached
  have hcb := h.noCallback hs
  obtain ⟨hx, hl⟩ := h.atRest (by simp [hs])
  obtain ⟨⟩ := s
  simp_all [endEffect, lineWrite]

theorem State.Inv.quiet {s : State} (h : s.Inv) : (quiet s).Inv :=
  h.write (.outside ..)

/-- The effect of an instruction without a row writes nothing but outputs. -/
theorem opEffect_of_no_row (c : Config) (i : Instr) {s : State}
    (hw : i = .wdg ∨ watchdogDue (stepTime i s) s = false) (hrow : ∀ after, hasRow i s.status after = false)
    (hend : i = .endOp → s.Inv) : OnlyOutputsDiffer s (opEffect c i s) := by
  cases i with
  | beginOp cb =>
    have hs : s.status ≠ .notInitialized := fun h => by simpa [hasRow, h] using hrow .ready
    exact onlyOutputsDiffer_of_eq (beginEffect_started cb hs)
  | endOp =>
    have hs : s.status = .notInitialized := by simpa [hasRow] using hrow .notInitialized
    exact onlyOutputsDiffer_of_eq ((hend rfl).endEffect_stopped hs)
  | isReady => exact onlyOutputsDiffer_giveResult ..
  | sendRequest f => exact onlyOutputsDiffer_startSync _ _ hrow
  | sendRequestAsync f => exact onlyOutputsDiffer_trySend _ _ hrow
  | sendResponse f => exact onlyOutputsDiffer_trySend _ _ hrow
  | process =>
    have hs : receiveEnded s.status = false := by simpa [hasRow] using hrow .ready
    exact onlyOutputsDiffer_of_eq (finalise_of_not_ended hs)
  | getLastResponse => exact onlyOutputsDiffer_giveResult ..
  | getLastResponseStatus => exact onlyOutputsDiffer_giveResult ..
  | edge t lvl =>
    rw [opEffect, edgeHandler_not_due lvl (hw.resolve_left (by simp)), edgeByStatus_of_no_row _ lvl hrow, ite_self]
    exact onlyOutputsDiffer_of_eq rfl
  | txHalf => exact onlyOutputsDiffer_of_eq (txHalfEffect_at_rest (not_sending_of_no_engineRow hrow))
  | txHalfCompletion =>
    exact onlyOutputsDiffer_of_eq (txHalfCompletionEffect_at_rest (not_sending_of_no_engineRow hrow))
  | wdg =>
    have hs : watched s.status = false := by simpa [hasRow] using hrow .responseInvalid
    exact onlyOutputsDiffer_of_eq (wdgEffect_not_due (watchdogDue_of_unwatched _ hs))
  | setBoilerStatus ch dhw cool otc ch2 => exact onlyOutputsDiffer_startSync _ _ hrow
  | getBoilerTemperature => exact onlyOutputsDiffer_startSync _ _ hrow
  | _ => exact onlyOutputsDiffer_of_eq rfl

/-- Settles O13: without a row the effect writes outputs at most, and `quiet` only clears them. -/
theorem noRowMeansNoChange : Obligations.NoRowMeansNoChange := by
  intro i s hd hw hrow hend
  have heffect : OnlyOutputsDiffer (quiet s) (opEffect s.cfg i (quiet s)) :=
    opEffect_of_no_row s.cfg i (s := quiet s) (by simpa using hw) hrow fun e => (hend e).quiet
  obtain ⟨o, ho⟩ := heffect
  rcases Bool.eq_false_or_eq_true (isPure i) with hpure | hpure
  · obtain ⟨r, e⟩ := exec_pure i s hpure
    exact ⟨_, e⟩
  · refine ⟨o, ?_⟩
    rcases Bool.eq_false_or_eq_true (isEvent i) with hevent | hevent
    · rw [exec_event i s hevent, liveStep_of_live _ s hd, ho]
      rfl
    · rw [exec_protocol_of_not_due (by simp [isProtocol, hpure, hevent]) hd (not_due_at_clock hevent hw), ho]
      rfl

end Sys2Proof.Machine
end

section
/-!
PROOFS. The watchdog before an operation and before an edge (R140, R170): the step is the one from the state the
watchdog leaves, with the time-out reported first.
-/

namespace Sys2Proof.Machine

/-- An error kind put in front of the reports of the step. -/
def reportedFirst (k : ErrorKind) (s : State) : State :=
  { s with out := { s.out with reports := k :: s.out.reports } }

/-- What the watchdog has written where it acts at the head of a step, the report left out (R149, R170). -/
def timedOut (s : State) : State :=
  { s with status := .responseInvalid, pendCause := .timeout, rxTs := watchdogInstant s }

theorem takeError_quiet_eq_reportedFirst (s : State) :
    takeError .timeout (watchdogInstant s) (quiet s) = reportedFirst .timeout (quiet (timedOut s)) := rfl

/-- In a state that has timed out no operation reads the reports of its step or adds one. -/
theorem opEffect_reportedFirst (c : Config) (i : Instr) (k : ErrorKind) {s : State} (hs : s.status = .responseInvalid)
    (hp : s.pendCause = .timeout) (hi : isEvent i = false) :
    opEffect c i (reportedFirst k s) = reportedFirst k (opEffect c i s) := by
  have hready : s.status ≠ .ready := by simp [hs]
  have hasync (f : Frame) (kind : TxKind) :
      trySend f kind (reportedFirst k s) = reportedFirst k (trySend f kind s) := by
    rw [trySend_rejected f kind hready, trySend_rejected f kind (s := reportedFirst k s) hready]
    rfl
  have hsync (kind : SyncKind) (f : Frame) :
      startSync kind f (reportedFirst k s) = reportedFirst k (startSync kind f s) := by
    rw [startSync_rejected kind f hready, startSync_rejected kind f (s := reportedFirst k s) hready]
    rfl
  cases i with
  | beginOp cb =>
    have hstarted : s.status ≠ .notInitialized := by simp [hs]
    rw [opEffect, beginEffect_started cb hstarted, beginEffect_started cb (s := reportedFirst k s) hstarted]
  | process =>
    rw [opEffect, finalise_timeout hs hp, finalise_timeout (s := reportedFirst k s) hs hp, deliver_eq, deliver_eq]
    rfl
  | sendRequest f => exact hsync ..
  | sendRequestAsync f => exact hasync ..
  | sendResponse f => exact hasync ..
  | setBoilerStatus ch dhw cool otc ch2 => exact hsync ..
  | getBoilerTemperature => exact hsync ..
  | edge | txHalf | txHalfCompletion | wdg => simp [isEvent] at hi
  | _ => rfl

/-- A protocol operation past the watchdog's bound is the one on the state that has timed out. -/
theorem exec_protocol_timedOut {i : Instr} {s : State} (hi : isProtocol i = true)
    (hw : watchdogDue (clock s) s = true) :
    ∃ u, exec i (timedOut s) = .next u ∧ exec i s = .next (reportedFirst .timeout u) := by
  refine ⟨_, exec_protocol_of_not_due hi (by simp [timedOut]) (watchdogDue_of_unwatched _ rfl), ?_⟩
  rw [exec_protocol_of_due hi hw, takeError_quiet_eq_reportedFirst,
    opEffect_reportedFirst _ i _ rfl rfl (isEvent_of_isProtocol hi)]
  rfl

/-- An attached edge past the watchdog's bound is dropped in the state that has timed out. -/
theorem exec_edge_timedOut {t : Nat} (lvl : Level) {s : State} (hirq : s.irqEn = true)
    (hw : watchdogDue (wrapTime s.cfg t) s = true) :
    ∃ u, exec (.edge t lvl) (timedOut s) = .next u ∧ exec (.edge t lvl) s = .next (reportedFirst .timeout u) := by
  have hd : s.status ≠ .delay := ne_of_watched ((watchdogDue_iff _ s).1 hw).1 rfl
  refine ⟨quiet (timedOut s), ?_, ?_⟩
  · rw [exec_edge_live t lvl (by simp [timedOut]), edgeHandler_of_unheard t lvl (.inr (.inr rfl))]
  · rw [exec_edge_live t lvl hd, edgeHandler_attached t lvl (quiet s) hirq, quiet_cfg,
      watchdogFirst_of_due _ _ (by simpa using hw)]
    rfl

/-- Settles O16: an operation at the clock, an edge at its own time. -/
theorem watchdogActsBeforeEveryOperation : Obligations.WatchdogActsBeforeEveryOperation := by
  intro i s hi hwatched hlate
  have hw : watchdogDue (stepTime i s) s = true := (watchdogDue_iff _ s).2 ⟨hwatched, hlate⟩
  obtain hp | ⟨hirq, t, lvl, rfl⟩ := hi
  · rw [stepTime_of_not_event (isEvent_of_isProtocol hp)] at hw
    exact exec_protocol_timedOut hp hw
  · exact exec_edge_timedOut lvl hirq hw

end Sys2Proof.Machine
end

section
/-!
PROOFS. A blocked host has an exchange in flight or just ended (R169): no event step takes the
exchange away; a word of the host could, but only a free host issues one, and the finalising poll frees the host.
-/

namespace Sys2Proof.Machine

/-! ### States that meet the invariant -/

theorem State.SyncInv.of_free {s : State} (h : s.sync = none) : s.SyncInv :=
  ⟨fun hs => absurd h hs, fun hs => absurd h hs⟩

/-- An exchange past its transmission, up to the receive that has ended. -/
theorem State.SyncInv.of_receive {s : State}
    (h : s.status ≠ .notInitialized ∧ s.status ≠ .ready ∧ s.status ≠ .requestSending) : s.SyncInv :=
  ⟨fun _ => ⟨h.1, h.2.1⟩, fun _ hs => absurd hs h.2.2⟩

theorem State.SyncInv.of_request {s : State} (hs : s.status = .requestSending) (hk : s.txKind = .request) :
    s.SyncInv :=
  ⟨fun _ => by simp [hs], fun _ _ => hk⟩

/-- `SyncInv` reads the status, the kind of the transmission and the blocked host only. -/
theorem State.SyncInv.congr {s t : State} (h : s.SyncInv) (hst : t.status = s.status) (hk : t.txKind = s.txKind)
    (hsync : t.sync = s.sync) : t.SyncInv :=
  ⟨by rw [hst, hsync]; exact h.inFlight, by rw [hst, hsync, hk]; exact h.isRequest⟩

theorem State.SyncInv.quiet {s : State} (h : s.SyncInv) : (quiet s).SyncInv :=
  h.congr rfl rfl rfl

/-! ### The events and the polls -/

theorem State.SyncInv.watchdogFirst {s : State} (h : s.SyncInv) (t : Nat) : (watchdogFirst t s).SyncInv := by
  obtain ⟨-, e⟩ | ⟨-, e⟩ := watchdogFirst_cases t s <;> rw [e]
  · exact h
  · exact .of_receive (by simp)

theorem State.SyncInv.wdgEffect {s : State} (h : s.SyncInv) : (wdgEffect s).SyncInv := by
  unfold Machine.wdgEffect
  split
  · exact .of_receive (by simp)
  · exact h

/-- Every arm of the handler leaves the receive going on or ended. -/
theorem State.SyncInv.edgeByStatus {s : State} (h : s.SyncInv) (t : Nat) (lvl : Level) :
    (edgeByStatus t lvl s).SyncInv := by
  obtain e | ⟨-, -, -, e⟩ | ⟨-, e⟩ | ⟨-, -, -, e⟩ | ⟨-, e⟩ | ⟨hs, -, -, e⟩ | ⟨-, -, -, -, e⟩ :=
    edgeByStatus_cases t lvl s <;> rw [e]
  · exact h
  · exact .of_receive (by simp)
  · exact .of_receive (by simp)
  · exact .of_receive (by simp)
  · exact .of_receive (by simp)
  · exact .of_receive (by simp [hs])
  · exact .of_receive (by simp)

theorem State.SyncInv.edgeHandler {s : State} (h : s.SyncInv) (t : Nat) (lvl : Level) :
    (edgeHandler t lvl s).SyncInv := by
  cases hirq : s.irqEn
  · rw [edgeHandler_detached t lvl s hirq]
    exact h
  · rw [edgeHandler_attached t lvl s hirq]
    exact (h.watchdogFirst _).edgeByStatus _ lvl

/-- The transmission of a blocked host is a request, so its completion waits for the response (R134). -/
theorem State.SyncInv.txComplete {s : State} (h : s.SyncInv) (hs : s.status = .requestSending) (t : Nat) :
    (txComplete t s).SyncInv := by
  by_cases hfree : s.sync = none
  · exact .of_free hfree
  · exact .of_receive (by simp [h.isRequest hfree hs])

theorem State.SyncInv.txHalfEffect {s : State} (h : s.SyncInv) : (txHalfEffect s).SyncInv := by
  obtain ⟨-, -, e⟩ | ⟨hs, -, e⟩ | ⟨-, e⟩ := txHalfEffect_cases s <;> rw [e]
  · exact h.congr rfl rfl rfl
  · exact h.txComplete hs _
  · exact h

theorem State.SyncInv.txHalfCompletionEffect {s : State} (h : s.SyncInv) : (txHalfCompletionEffect s).SyncInv := by
  unfold Machine.txHalfCompletionEffect
  split
  · rename_i hc
    exact h.txComplete hc.1 _
  · exact h

theorem State.SyncInv.exec_event {s t : State} (h : s.SyncInv) {i : Instr} (hi : isEvent i = true)
    (hx : exec i s = .next t) : t.SyncInv := by
  rw [Machine.exec_event i s hi, liveStep_next_iff] at hx
  obtain ⟨-, rfl⟩ := hx
  cases i with
  | edge t lvl => exact h.quiet.edgeHandler t lvl
  | txHalf => exact h.quiet.txHalfEffect
  | txHalfCompletion => exact h.quiet.txHalfCompletionEffect
  | wdg => exact h.quiet.wdgEffect
  | _ => simp [isEvent] at hi

/-- A poll frees the host, or leaves the exchange as the watchdog left it. -/
theorem State.SyncInv.pollSync {s t : State} (h : s.SyncInv) (hp : pollSync s = .next t) : t.SyncInv := by
  unfold Machine.pollSync at hp
  split at hp
  · cases hp
    exact h.quiet
  · obtain ⟨-, rfl⟩ := (protocolStep_next_iff _ _ _).1 hp
    obtain ⟨-, e⟩ | ⟨-, -, e⟩ | ⟨-, -, e⟩ := pollCall_cases _ (Machine.watchdogFirst (clock s) (Machine.quiet s)) <;>
      rw [e]
    · exact .of_free rfl
    · exact .of_free rfl
    · exact h.quiet.watchdogFirst _

/-! ### The words of a free host -/

theorem beginEffect_sync (cb : Bool) (s : State) : (beginEffect cb s).sync = s.sync := by
  unfold beginEffect
  split <;> rfl

theorem trySend_sync (f : Frame) (kind : TxKind) (s : State) : (trySend f kind s).sync = s.sync := by
  obtain ⟨-, e⟩ | ⟨-, e⟩ := trySend_cases f kind s <;> rw [e] <;> rfl

/-- A free host is blocked by the request it starts, or stays free. -/
theorem syncInv_startSync (kind : SyncKind) (f : Frame) {s : State} (h : s.sync = none) :
    (startSync kind f s).SyncInv := by
  obtain ⟨-, e⟩ | ⟨-, e⟩ := startSync_cases kind f s <;> rw [e]
  · exact .of_request rfl rfl
  · exact .of_free h

theorem syncInv_opEffect_of_free (c : Config) {i : Instr} {s : State} (h : s.sync = none) (hi : isEvent i = false) :
    (opEffect c i s).SyncInv := by
  cases i with
  | beginOp cb => exact .of_free ((beginEffect_sync cb s).trans h)
  | sendRequest f => exact syncInv_startSync _ f h
  | sendRequestAsync f => exact .of_free ((trySend_sync ..).trans h)
  | sendResponse f => exact .of_free ((trySend_sync ..).trans h)
  | process => exact .of_free ((finalise_sync s).trans h)
  | setBoilerStatus ch dhw cool otc ch2 => exact syncInv_startSync _ _ h
  | getBoilerTemperature => exact syncInv_startSync _ _ h
  | edge | txHalf | txHalfCompletion | wdg => simp [isEvent] at hi
  | _ => exact .of_free h

theorem syncInv_exec_of_free {i : Instr} {s t : State} (h : s.sync = none) (hi : isEvent i = false)
    (hx : exec i s = .next t) : t.SyncInv := by
  obtain ⟨-, r, rfl⟩ | ⟨hevent, -, -⟩ | ⟨-, -, rfl⟩ := exec_next_cases hx
  · exact .of_free h
  · simp [hi] at hevent
  · exact syncInv_opEffect_of_free _ (by simpa using h) hi

/-- Settles O6: events and polls keep the invariant, and a host word is run for a free host only. -/
theorem stepsKeepABlockedHostInAnExchange : Obligations.StepsKeepABlockedHostInAnExchange := by
  intro s t h hstep
  obtain ⟨-, rfl⟩ | ⟨n, a, -, -, hmove⟩ := step_next_cases hstep
  · exact h.congr rfl rfl rfl
  · have hat : (atTime n s).SyncInv := h.congr rfl rfl rfl
    obtain ⟨-, hx⟩ | ⟨_, rest, -, -, hx⟩ | ⟨-, -, hx⟩ | ⟨-, -, hx⟩ | ⟨_, rest, _, -, hfree, -, hd, hx⟩ | ⟨-, -, hp⟩ :=
      hmove
    · exact hat.exec_event rfl hx
    · exact (hat.congr (t := { atTime n s with line := rest }) rfl rfl rfl).exec_event rfl hx
    · exact hat.exec_event rfl hx
    · exact hat.exec_event rfl hx
    · exact syncInv_exec_of_free (s := { atTime n s with host := rest }) hfree (decodeHost_not_event _ _ hd) hx
    · exact (hat.congr (t := usePoll (atTime n s)) rfl rfl rfl).pollSync hp

end Sys2Proof.Machine
end

section
/-!
PROOFS. The accessors (R180 to R182): the frame of the status request, and the two that send as the synchronous send of
the frames they build.
-/

namespace Sys2Proof.Machine

/-! ### The status request (R180) -/

theorem exec_buildSetBoilerStatusRequest (ch dhw cool otc ch2 : Bool) (s : State) :
    exec (.buildSetBoilerStatusRequest ch dhw cool otc ch2) s =
      .next { s with out := Outputs.returning (.frame (statusRequest s.cfg ch dhw cool otc ch2)) } := rfl

/-- The flags fit the five low bits of their byte. -/
theorem requestFlags_lt (ch dhw cool otc ch2 : Bool) : requestFlags ch dhw cool otc ch2 < 32 := by
  revert ch dhw cool otc ch2
  decide

/-- Below the parity bit: the type, the ID and the flags in their places; no operand is truncated. -/
theorem statusRequest_toNat_mod (c : Config) (ch dhw cool otc ch2 : Bool) :
    (statusRequest c ch dhw cool otc ch2).toNat % 2 ^ 31 =
      2 ^ 28 + c.idStatus.toNat * 2 ^ 16 + 2 ^ 8 * requestFlags ch dhw cool otc ch2 := by
  have htype : (messageTypeCode .writeData).toNat = 1 := rfl
  have hid := c.idStatus.isLt
  have hflags := requestFlags_lt ch dhw cool otc ch2
  rw [statusRequest, buildFrame_toNat_mod, htype]
  omega

/-- A built frame of a requester type is a valid request (R100, R105). -/
theorem validIn_requester_buildFrame {ty : Nat} (hty : ty % 8 < 4) (id data : Nat) :
    validIn .requester (buildFrame ty id data) = true := by
  have hbit : (buildFrame ty id data).toNat / 2 ^ 30 % 2 = 0 := by
    have := buildFrame_toNat_mod ty id data
    omega
  rw [validIn_requester, decide_eq_true_iff]
  exact ⟨popcount_buildFrame_even ty id data, hbit⟩

/-- Settles O54: the request is a built frame whose type, `WRITE_DATA`, is a requester's. -/
theorem statusRequestCarriesTheFlags : Obligations.StatusRequestCarriesTheFlags := by
  intro ch dhw cool otc ch2 s
  refine ⟨_, exec_buildSetBoilerStatusRequest ch dhw cool otc ch2 s, ?_, popcount_buildFrame_even _ _ _, ?_⟩
  · rw [statusRequest_toNat_mod, requestFlags]
    omega
  · rw [exec_isValidRequest, statusRequest, validIn_requester_buildFrame (by decide)]

/-! ### The accessors that send (R181, R182) -/

/-- R181's expansion: the accessor is `sendRequest` of the status request, in every state. -/
theorem exec_setBoilerStatus_eq_sendRequest (ch dhw cool otc ch2 : Bool) (s : State) :
    exec (.setBoilerStatus ch dhw cool otc ch2) s = exec (.sendRequest (statusRequest s.cfg ch dhw cool otc ch2)) s :=
  rfl

/-- Settles O55: `setBoilerStatus` starts what `sendRequest` starts, `getBoilerTemperature` the other kind of call. -/
theorem sendingAccessorsStartTheirRequest : Obligations.SendingAccessorsStartTheirRequest := by
  intro ch dhw cool otc ch2 s hs
  have hsend := exec_setBoilerStatus_eq_sendRequest ch dhw cool otc ch2 s
  refine ⟨_, temperatureRequest s.cfg, exec_buildSetBoilerStatusRequest ch dhw cool otc ch2 s, rfl, ?_, hsend, ?_⟩
  · exact hsend.trans ((synchronousSendStartsOrReturnsTheSentinel _ s).1 hs)
  · rw [exec_protocol_ready rfl hs, opEffect, startSync_accepted .temperature _ (s := quiet s) hs]
    rfl

/-- Outside `READY` the call returns at once what it reads from `SENTINEL` (R169, R182). -/
theorem exec_getBoilerTemperature_rejected {s : State} (hs : s.status ≠ .ready) (hd : s.status ≠ .delay)
    (hw : watchdogDue (clock s) s = false) :
    exec .getBoilerTemperature s =
      .next { s with out := Outputs.returning (syncResult .temperature s.cfg.sentinel s) } := by
  rw [exec_protocol_of_not_due rfl hd hw, opEffect, startSync_rejected .temperature _ (s := quiet s) hs]
  rfl

/-- Settles O56: `setBoilerStatus` is rejected as `sendRequest` is; the temperature of a zero `SENTINEL` is 0 whatever
`resp_status` holds. -/
theorem sendingAccessorsAreRejectedElsewhere : Obligations.SendingAccessorsAreRejectedElsewhere := by
  intro ch dhw cool otc ch2 s hs hd hw
  have htemp := exec_getBoilerTemperature_rejected hs hd hw
  rw [syncResult_temperature] at htemp
  refine ⟨?_, htemp, fun hzero => ?_⟩
  · rw [exec_setBoilerStatus_eq_sendRequest]
    exact (synchronousSendStartsOrReturnsTheSentinel _ s).2 hs hd hw
  · have hread : (BitVec.ofNat 16 s.cfg.sentinel.toNat).toInt = 0 := by rw [hzero]; rfl
    rw [htemp, hread, ite_self]

end Sys2Proof.Machine
end

section
/-!
PROOFS. The order of agents at one instant (R208, D40), agent by agent: which of them moves next, and the step it makes
there.
-/

namespace Sys2Proof.Machine

/-! ### The line -/

/-- The line moves next when the watchdog's step lies later and no other step lies earlier. -/
theorem nextAgent_line {s : State} {n : Nat} (hn : lineTime s = some n) (hw : ∀ u ∈ watchdogTime s, n < u)
    (he : ∀ u ∈ engineTime s, n ≤ u) (hh : ∀ u ∈ hostTime s, n ≤ u) : nextAgent s = some (n, .line) := by
  refine nextAgent_eq_of_first hn fun b m hb => ?_
  cases b with
  | watchdog => exact .inl (hw m hb)
  | line => exact .inr ⟨Option.some.inj (hn.symm.trans hb), Nat.le_refl _⟩
  | engine => exact (Nat.lt_or_eq_of_le (he m hb)).imp_right fun h => ⟨h, by decide⟩
  | host => exact (Nat.lt_or_eq_of_le (hh m hb)).imp_right fun h => ⟨h, by decide⟩

/-- The first transition is handled at its time, or now if that has passed (R206). -/
theorem lineTime_cons {s : State} {e : LineItem} {rest : List LineItem} (hl : s.line = e :: rest) :
    lineTime s = some (max s.now e.time) := by
  simp [lineTime, hl]

theorem lineTime_nil {s : State} (hl : s.line = []) : lineTime s = none := by
  simp [lineTime, hl]

/-- The handler reads the clock at its own step and the level of the transition, which is taken away. -/
theorem step_line {s : State} {n : Nat} {e : LineItem} {rest : List LineItem} (hn : nextAgent s = some (n, .line))
    (hl : s.line = e :: rest) :
    step s = exec (.edge (wrapTime s.cfg n) (lineRead s.cfg.polIn e.pinHigh)) { s with now := n, line := rest } := by
  simp [step, nextMove, hn, lineMove, hl, clock, atTime]

/-! ### The transmit engine -/

/-- The engine moves next when the watchdog's step and the line's lie later and the host's not earlier. -/
theorem nextAgent_engine {s : State} {n : Nat} (hn : engineTime s = some n) (hw : ∀ u ∈ watchdogTime s, n < u)
    (hl : ∀ u ∈ lineTime s, n < u) (hh : ∀ u ∈ hostTime s, n ≤ u) : nextAgent s = some (n, .engine) := by
  refine nextAgent_eq_of_first hn fun b m hb => ?_
  cases b with
  | watchdog => exact .inl (hw m hb)
  | line => exact .inl (hl m hb)
  | engine => exact .inr ⟨Option.some.inj (hn.symm.trans hb), Nat.le_refl _⟩
  | host => exact (Nat.lt_or_eq_of_le (hh m hb)).imp_right fun h => ⟨h, by decide⟩

/-- The engine's step is `TXHALF`, of which the completion step is the case `tx_idx = 68` (R134). -/
theorem step_engine {s : State} {n : Nat} (hn : nextAgent s = some (n, .engine)) :
    step s = exec .txHalf (atTime n s) := by
  by_cases hx : s.txIdx.toNat = 68
  · rw [exec_txHalf_eq_completion (s := atTime n s) hx]
    simp [step, nextMove, hn, engineMove, hx]
  · simp [step, nextMove, hn, engineMove, hx]

/-! ### No agent -/

theorem nextAgent_eq_none {s : State} (hall : ∀ a, agentTime a s = none) : nextAgent s = none := by
  obtain ⟨hn, -⟩ | ⟨n, a, -, ha, -⟩ := nextAgent_cases s
  · exact hn
  · simp [hall a] at ha

/-- With no step to come the clock runs on by one microsecond. -/
theorem step_idle {s : State} (hn : nextAgent s = none) : step s = .next (atTime (s.now + 1) (quiet s)) := by
  simp [step, nextMove, hn]

/-- Settles O18: in each clause the order names the next agent, and its step is the one the clause states. -/
theorem stepFollowsTheOrderOfAgents : Obligations.StepFollowsTheOrderOfAgents := by
  intro s
  refine ⟨fun t ht hl _ hh => step_watchdog ht hl hh,
    fun e rest hl hw he hh => step_line (nextAgent_line (lineTime_cons hl) hw he hh) hl,
    fun t ht hw hl hh => step_engine (nextAgent_engine ht hw hl hh),
    fun t ht hs hw hl he => step_poll (nextAgent_host ht hw hl he) hs,
    fun hw hl he hh => step_idle (nextAgent_eq_none fun a => ?_)⟩
  cases a with
  | watchdog => exact hw
  | line => exact lineTime_nil hl
  | engine => exact he
  | host => exact hh

end Sys2Proof.Machine
end
